-- ==== Sys2Proof/Word.lean ====
section
/-! DEFINITION. The byte of the part's serial links, and the plain saturating arithmetic of its counters
(00_scope.md 3.3 and 3.4). -/

namespace Sys2Proof

/-- One byte on any of the part's serial links. -/
abbrev Byte := BitVec 8

/-- A counter advanced by `n` that saturates at `top` and does not wrap (00_scope.md 3.4). -/
def satAdd (top c n : Nat) : Nat := min top (c + n)

/-- clamp(value, low, high) of 00_scope.md 3.3. -/
def clampInt (v lo hi : Int) : Int := max lo (min v hi)

end Sys2Proof
end

