-- ==== Sys2Proof/Syntax.lean ====
section
/-! DEFINITION. The commands of the part: one constructor for each row of spec/opcode_table.json, with its operands.
A request of the host is the frame that carries it: its sequence byte and its payload bytes (R174, 11.1). A record of a
partner link is the valid record with its fields (R181, 11.2). -/

namespace Sys2Proof

/-- The two cars (code A 0, B 1). -/
inductive Car where
  | a | b
  deriving DecidableEq, Repr

/-- A door side, relative to the uphill direction of the car (LEFT 0, RIGHT 1). -/
inductive Side where
  | left | right
  deriving DecidableEq, Repr

/-- A direction of travel: UP means that car A ascends (UP 0, DOWN 1). -/
inductive Dir where
  | up | down
  deriving DecidableEq, Repr

/-- Speed class of a trip, from highest to lowest (NORMAL 0, REDUCED 1, INSPECTION 2). -/
inductive SpeedClass where
  | normal | reduced | inspection
  deriving DecidableEq, Repr

/-- The two encoder channels. -/
inductive EncoderId where
  | p | q
  deriving DecidableEq, Repr

/-- The two brakes: service brake (SB) and safety brake (EB). -/
inductive BrakeId where
  | sb | eb
  deriving DecidableEq, Repr

/-- A brake command, and the reading of a feedback contact. -/
inductive Contact where
  | applied | lifted
  deriving DecidableEq, Repr

/-- What a car unit reports of one door side (LOCKED 0, CLOSED 1, MOVING 2, OPEN 3, OBSTRUCTED 4). -/
inductive DoorReport where
  | locked | closed | moving | standingOpen | obstructed
  deriving DecidableEq, Repr

/-- The attendant flags of a car status record (R110). -/
structure Attendant where
  ready : Bool
  hold : Bool
  alarm : Bool
  service : Bool
  deriving DecidableEq, Repr

/-- The car fault flags of a car status record (R110). -/
structure CarFaults where
  doorDrive : Bool
  counter : Bool
  deriving DecidableEq, Repr

/-- A valid car status record (R110): every field in its range. -/
structure CarStatus where
  left : DoorReport
  right : DoorReport
  tag : Fin 8
  inCounter : BitVec 16
  outCounter : BitVec 16
  weigh : Option (BitVec 16)
  attendant : Attendant
  faults : CarFaults
  deriving DecidableEq, Repr

/-- The status of a valid DRIVE STATUS record (READY 1, RUNNING 2, FAULT 3). -/
inductive DriveReading where
  | ready | running | fault
  deriving DecidableEq, Repr

/-- A valid DRIVE STATUS record (R80, 11.2). Its torque lies in -100 to 100 (checked by `WellFormed`). -/
structure DriveStatus where
  status : DriveReading
  faultCode : Byte
  torque : Int
  deriving DecidableEq, Repr

/-- Kind of a credential (PASS 0, TOKEN 1). -/
inductive CredKind where
  | pass | token
  deriving DecidableEq, Repr

/-- The credential a PRESENT answer carries (R157). -/
structure Credential where
  kind : CredKind
  id : BitVec 32
  fareClass : Fin 16
  issueDay : BitVec 16
  deriving DecidableEq, Repr

/-- The partner links (11.2): the gate bus, the two car links and the drive line. -/
inductive PartnerLink where
  | gateBus | carA | carB | driveLine
  deriving DecidableEq, Repr

/-- Why a frame of the supervisor link is discarded (R173). -/
inductive DiscardReason where
  | lengthError | badCrc | badType | overrun
  deriving DecidableEq, Repr

/-- The commands, in the order of spec/opcode_table.json. -/
inductive Instr where
  /-- RESET: power-on or the reset line. -/
  | reset
  /-- LOAD_END: the start-up load of the image ends. -/
  | loadEnd
  | configWrite (seq : Byte) (payload : List Byte)
  | configRemove (seq : Byte) (payload : List Byte)
  | configRead (seq : Byte) (payload : List Byte)
  | configCommit (seq : Byte) (payload : List Byte)
  /-- IMAGE_WRITE_END: the write of the image ends. -/
  | imageWriteEnd
  | dispatch (seq : Byte) (payload : List Byte)
  | stop (seq : Byte) (payload : List Byte)
  | recover (seq : Byte) (payload : List Byte)
  | referenceRun (seq : Byte) (payload : List Byte)
  | setClass (seq : Byte) (payload : List Byte)
  | brakeReset (seq : Byte) (payload : List Byte)
  | faultsRead (seq : Byte) (payload : List Byte)
  | faultsClear (seq : Byte) (payload : List Byte)
  | doorRelease (seq : Byte) (payload : List Byte)
  | doorOpen (seq : Byte) (payload : List Byte)
  | doorClose (seq : Byte) (payload : List Byte)
  | doorCancel (seq : Byte) (payload : List Byte)
  | carFlags (seq : Byte) (payload : List Byte)
  | setOnboard (seq : Byte) (payload : List Byte)
  | windowOpen (seq : Byte) (payload : List Byte)
  | windowClose (seq : Byte) (payload : List Byte)
  | carryClear (seq : Byte) (payload : List Byte)
  | gateEnable (seq : Byte) (payload : List Byte)
  | passLoad (seq : Byte) (payload : List Byte)
  | passDelete (seq : Byte) (payload : List Byte)
  | passRead (seq : Byte) (payload : List Byte)
  | cursorSet (seq : Byte) (payload : List Byte)
  | denyAdd (seq : Byte) (payload : List Byte)
  | denyRemove (seq : Byte) (payload : List Byte)
  | tokenFlush (seq : Byte) (payload : List Byte)
  | storePlan (seq : Byte) (payload : List Byte)
  | setDay (seq : Byte) (payload : List Byte)
  | setClock (seq : Byte) (payload : List Byte)
  | status (seq : Byte) (payload : List Byte)
  | restart (seq : Byte) (payload : List Byte)
  /-- UNKNOWN_REQUEST: a frame with a correct CRC whose type `typ` is not a request type. -/
  | unknownRequest (seq : Byte) (typ : Byte)
  | discardedFrame (why : DiscardReason)
  | byteGapTimeout
  /-- FRAME_SENT: the last byte of the frame in transmission has been sent. -/
  | frameSent
  /-- ENCODER_COUNT: quadrature pulses move a channel's count by `delta` (one pulse is +1 or -1). -/
  | encoderCount (channel : EncoderId) (delta : Int)
  | sample
  | markEvent (number : Nat)
  | brakeFeedback (brake : BrakeId) (reading : Contact)
  | applyTimerExpiry (brake : BrakeId)
  | escalationTimerExpiry
  | ebLiftTimeout
  | tPrepExpiry
  | tLiftExpiry
  | driveStatus (record : DriveStatus)
  | carStatus (car : Car) (record : CarStatus)
  | livenessTimerExpiry (car : Car)
  | carCommandTimer (car : Car)
  | weighExpiry (car : Car)
  | tCloseExpiry (car : Car)
  | nothing (gate : Nat)
  | present (gate : Nat) (credential : Credential)
  | creditRequest (gate : Nat)
  | passed (gate : Nat)
  | abandoned (gate : Nat)
  | gateFault (gate : Nat) (code : Byte)
  | pollTimeout
  | passageTimeout (gate : Nat)
  | clockTick
  | storeClearEnd
  | invalidLinkRecord (link : PartnerLink)
  | linkGapTimeout (link : PartnerLink)
  | linkRecordSent (link : PartnerLink)
  | incomingByte (byte : Byte)
  | linkIncomingByte (link : PartnerLink) (byte : Byte)
  deriving DecidableEq, Repr

end Sys2Proof
end

