-- ==== Sys2Proof/Decode.lean ====
section
/-! DEFINITION. The command that a word of the opcode table spells. The table of this part gives no row a bit, so no word
spells a command (DESIGN CHOICE, assumption log 1). -/

namespace Sys2Proof

/-- The command spelled by an `nbits`-bit word of the table: none, since no row of the table has bits. -/
def decodeTableWord (_nbits _w : Nat) : Option Instr := none

end Sys2Proof
end

