-- ==== Sys2Proof/Config.lean ====
section
/-! DEFINITION. What the manual leaves open as free values (constants without a body: no proof can see them), and
the sizes and periods that the part itself fixes. -/

namespace Sys2Proof.Config

/-- FREE VALUE. The order in which events that stand together at one block are taken (00_scope.md 3.7: "may be taken
in either order"); argument: the model's draw counter. Assumption log 2. -/
opaque pick : Nat → Nat

/-- FREE VALUE. A time that only the part's own clock knows (the time left on a running timer, the age of a value), as
a STATUS reply shows it; arguments: the draw counter and the number of the timer. Assumption log 3. -/
opaque clockReading : Nat → Nat → Nat

/-- FREE VALUE. Whether a payload is marked as coming from the weigh when count and weigh agree exactly (R46, R49
state no mark for the tie); argument: the payload in kg. Assumption log 4. -/
opaque weighTie : Nat → Bool

/-- FREE VALUE. The four bytes that carry a position or a distance which does not fit 4 signed bytes: R18's ranges allow it
and no rule says what a report or a STATUS reply carries then; argument: the value in mm. Assumption log 51. -/
opaque wideWord : Int → Nat

/-- R177: the report queue holds up to 32 reports. -/
def reportQueueSize : Nat := 32

/-- R176: the reply queue holds 4 replies. -/
def replyQueueSize : Nat := 4

/-- R102: the fault capture list holds up to 4 entries. -/
def captureSize : Nat := 4

/-- R168: the deny list holds up to 128 entries. -/
def denySize : Nat := 128

/-- R90: the apply timer of a brake, in ms. -/
def applyTimerMs : Nat := 500

/-- R99: the escalation timer, in ms. -/
def escalationMs : Nat := 1000

/-- The number of internal notices one step takes before it ends (DESIGN CHOICE, assumption log 5). -/
def settleFuel : Nat := 96

end Sys2Proof.Config
end

