-- ==== Sys2Proof/Machine/Line.lean ====
section
/-! DEFINITION. The line description (chapter 1): record kinds with their fields, arrival ranges and defaults, the draft,
the checks of a commit (R7 to R10), the active configuration as typed records, and the contents of the image (R12). -/

namespace Sys2Proof.Machine

open Sys2Proof

/-- The fourteen record kinds of 1.3, in the order of their codes. -/
inductive Kind where
  | line | margin | profile | car | zone | platform | stop | mark | gate | fareClass | threshold | timing | door | store
  deriving DecidableEq, Repr

/-- Every kind, in increasing kind code. -/
def Kind.all : List Kind :=
  [.line, .margin, .profile, .car, .zone, .platform, .stop, .mark, .gate, .fareClass, .threshold, .timing, .door, .store]

/-- The kind code of 1.3 (0x01 to 0x0E). -/
def Kind.code : Kind → Nat
  | .line => 1 | .margin => 2 | .profile => 3 | .car => 4 | .zone => 5 | .platform => 6 | .stop => 7
  | .mark => 8 | .gate => 9 | .fareClass => 10 | .threshold => 11 | .timing => 12 | .door => 13 | .store => 14

/-- The kind with a code, if it is one of the fourteen. -/
def Kind.ofCode (c : Nat) : Option Kind := Kind.all.find? fun k => k.code == c

/-- The lowest index of a kind (1.3). -/
def Kind.lowIndex : Kind → Nat
  | .mark => 1 | .gate => 1 | _ => 0

/-- The highest index of a kind (1.3). -/
def Kind.highIndex : Kind → Nat
  | .zone => 15 | .platform => 5 | .stop => 3 | .mark => 24 | .gate => 12 | .fareClass => 15 | _ => 0

/-- The index lies in the index range of the kind. -/
def Kind.hasIndex (k : Kind) (i : Nat) : Bool := k.lowIndex ≤ i && i ≤ k.highIndex

/-- Every index of a kind, in increasing order. -/
def Kind.indexes (k : Kind) : List Nat :=
  (List.range (k.highIndex + 1 - k.lowIndex)).map (· + k.lowIndex)

/-- The kinds whose records are counted (R5): an absent record stays absent in the active configuration. -/
def Kind.counted : Kind → Bool
  | .zone | .platform | .stop | .mark | .gate => true
  | _ => false

/-- One row of a field table of 1.3. `extra` is an allowed value outside the range (platform NONE 255). -/
structure FieldSpec where
  number : Nat
  low : Nat
  high : Nat
  extra : Option Nat
  default : Option Nat
  deriving DecidableEq, Repr

/-- A field with a range and perhaps a default. -/
def fieldSpec (n lo hi : Nat) (d : Option Nat) : FieldSpec := ⟨n, lo, hi, none, d⟩

/-- The field tables of 1.3. Flags are 0 and 1, cars and door sides 0 and 1, codes as 1.3 and 11.1 give them. -/
def Kind.specs : Kind → List FieldSpec
  | .line => [fieldSpec 1 100000 4000000 none, fieldSpec 2 1000 15000 none, fieldSpec 3 200 2000 (some 900),
      fieldSpec 4 100 2000 (some 400), fieldSpec 5 0 10000 (some 2000), fieldSpec 6 100 2000 (some 500),
      fieldSpec 7 200 5000 (some 1000), fieldSpec 8 50 500 (some 150), fieldSpec 9 100 2000 (some 400),
      fieldSpec 10 50 1000 (some 250), fieldSpec 11 50 5000 (some 1500), fieldSpec 12 100 2000 (some 300),
      fieldSpec 13 20 500 (some 100), fieldSpec 14 100 65535 none, fieldSpec 15 100 65535 none,
      fieldSpec 16 10000 500000 (some 200000)]
  | .margin => [fieldSpec 1 0 2000 (some 300), fieldSpec 2 0 25 (some 4), fieldSpec 3 0 4000 (some 600),
      fieldSpec 4 0 50 (some 8), fieldSpec 5 0 2000 (some 200)]
  | .profile => [fieldSpec 1 100 1500 (some 600), fieldSpec 2 100 1000 (some 300), fieldSpec 3 500 20000 (some 3000),
      fieldSpec 4 300 2000 (some 1000)]
  | .car => [fieldSpec 1 1 250 none, fieldSpec 2 1000 60000 none, fieldSpec 3 50 120 (some 80), fieldSpec 4 0 30000 none]
  | .zone => [fieldSpec 1 0 4000000 none, fieldSpec 2 500 15000 none, fieldSpec 3 0 255 none]
  | .platform => [fieldSpec 1 0 3 none, fieldSpec 2 0 1 none, fieldSpec 3 0 4000000 none, fieldSpec 4 0 1 none,
      fieldSpec 5 0 1 (some 0)]
  | .stop => [fieldSpec 1 0 4000000 none, ⟨2, 0, 5, some 255, some 255⟩, ⟨3, 0, 5, some 255, some 255⟩]
  | .mark => [fieldSpec 1 0 4000000 none]
  | .gate => [fieldSpec 1 0 5 none, fieldSpec 2 0 1 (some 1)]
  | .fareClass => [fieldSpec 1 0 3 (some 2), fieldSpec 2 0 1 (some 1)]
  | .threshold => [fieldSpec 1 0 3 (some 0), fieldSpec 2 0 3 (some 0), fieldSpec 3 0 3 (some 1), fieldSpec 4 0 3 (some 2)]
  | .timing => [fieldSpec 1 0 3 (some 1), fieldSpec 2 0 3 (some 2), fieldSpec 3 0 3 (some 1), fieldSpec 4 0 3 (some 1),
      fieldSpec 5 0 3 (some 1)]
  | .door => [fieldSpec 1 0 1 (some 0), fieldSpec 2 0 7 (some 3), fieldSpec 3 0 1 (some 0)]
  | .store => [fieldSpec 1 0 3 (some 0)]

/-- The row of a field number, if the number belongs to the kind. -/
def Kind.spec? (k : Kind) (n : Nat) : Option FieldSpec := k.specs.find? fun f => f.number == n

/-- R3: the value lies in the arrival range of the field. -/
def FieldSpec.admits (f : FieldSpec) (v : Nat) : Bool := (f.low ≤ v && v ≤ f.high) || f.extra == some v

/-! ### The draft -/

/-- A present record of the draft: its present fields (number, value) in increasing field number. -/
structure DraftRecord where
  kind : Kind
  index : Nat
  fields : List (Nat × Nat)
  deriving DecidableEq, Repr

/-- R2: the draft holds each record as present or absent; a present record is listed, in order of kind code and index. -/
abbrev Draft := List DraftRecord

/-- The place of a record in the order of R7: kind code, then index. -/
def recordKey (k : Kind) (i : Nat) : Nat := k.code * 256 + i

/-- The present fields of a record, or none where the record is absent. -/
def Draft.fields? (d : Draft) (k : Kind) (i : Nat) : Option (List (Nat × Nat)) :=
  (d.find? fun r => r.kind == k && r.index == i).map (·.fields)

/-- The record is present. -/
def Draft.has (d : Draft) (k : Kind) (i : Nat) : Bool := (d.fields? k i).isSome

/-- A field list with field `n` set to `v`, in increasing field number. -/
def setField (n v : Nat) : List (Nat × Nat) → List (Nat × Nat)
  | [] => [(n, v)]
  | (m, w) :: rest =>
    if n < m then (n, v) :: (m, w) :: rest
    else if n = m then (n, v) :: rest
    else (m, w) :: setField n v rest

/-- The draft with a record replaced, or inserted at its place. -/
def Draft.put (r : DraftRecord) : Draft → Draft
  | [] => [r]
  | x :: rest =>
    if x.kind = r.kind ∧ x.index = r.index then r :: rest
    else if recordKey r.kind r.index < recordKey x.kind x.index then r :: x :: rest
    else x :: Draft.put r rest

/-- R3: the listed fields set in the draft record; the record is created where it was absent. -/
def Draft.write (d : Draft) (k : Kind) (i : Nat) (fs : List (Nat × Nat)) : Draft :=
  d.put ⟨k, i, fs.foldl (fun acc f => setField f.1 f.2 acc) ((d.fields? k i).getD [])⟩

/-- R4: the draft without the named record. -/
def Draft.remove (d : Draft) (k : Kind) (i : Nat) : Draft := d.filter fun r => !(r.kind == k && r.index == i)

/-- R2: the value of a field, or its default where the field or its record is absent. -/
def Draft.value? (d : Draft) (k : Kind) (i n : Nat) : Option Nat :=
  (((d.fields? k i).getD []).lookup n).or ((k.spec? n).bind (·.default))

/-- The value of a field that R7 has found to have one. -/
def Draft.value (d : Draft) (k : Kind) (i n : Nat) : Nat := (d.value? k i n).getD 0

/-! ### Validation (R7 to R10) -/

/-- R7: the required records. -/
def recordRequired (k : Kind) (i : Nat) : Bool :=
  match k with
  | .line | .car | .zone => i == 0
  | .stop => i == 0 || i == 1
  | _ => false

/-- R2, R7: a field without a default is absent. -/
def lacksField (d : Draft) (k : Kind) (i : Nat) : Bool := k.specs.any fun f => (d.value? k i f.number).isNone

/-- R8: the FIELD_ORDER check of one record. -/
def fieldOrderFails (d : Draft) (k : Kind) (i : Nat) : Bool :=
  let v := d.value k i
  match k with
  | .line => decide (v 4 > v 3) || decide (v 11 < v 10) || decide (v 6 > v 2)
  | .margin => decide (v 3 < v 1) || decide (v 4 < v 2)
  | .profile => decide (v 4 > d.value .line 0 2) || decide (v 2 > v 4)
  | .zone => decide (v 2 > d.value .line 0 2)
  | .platform => decide (v 3 > d.value .line 0 1)
  | _ => false

/-- R9: "previous" is the present record of the same kind at the next lower index. -/
def Draft.previous? (d : Draft) (k : Kind) (i : Nat) : Option Nat :=
  ((List.range i).filter fun j => d.has k j).getLast?

/-- R9: the ZONE_START check. -/
def zoneStartFails (d : Draft) (i : Nat) : Bool :=
  let start := d.value .zone i 1
  (match d.previous? .zone i with
    | none => decide (start ≠ 0)
    | some j => decide (start ≤ d.value .zone j 1)) || decide (start ≥ d.value .line 0 1)

/-- R9: the STOP_POSITION check. -/
def stopPositionFails (d : Draft) (i : Nat) : Bool :=
  let x := d.value .stop i 1
  (match d.previous? .stop i with
    | none => decide (x ≠ 0)
    | some j => decide (x ≤ d.value .stop j 1 + 2 * d.value .line 0 8)) ||
  (!((List.range 4).any fun j => decide (i < j) && d.has .stop j) && decide (x ≠ d.value .line 0 1))

/-- R9: the MARK_POSITION check. -/
def markPositionFails (d : Draft) (i : Nat) : Bool :=
  let pos := d.value .mark i 1
  decide (pos > d.value .line 0 1) ||
  (match d.previous? .mark i with
    | none => false
    | some j => decide (pos ≤ d.value .mark j 1 + 2 * d.value .line 0 11))

/-- The distance between two positions. -/
def distance (a b : Int) : Nat := (a - b).natAbs

/-- R10: the stop names platform `p` in either of its platform fields. -/
def stopNames (d : Draft) (i p : Nat) : Bool := d.has .stop i && (d.value .stop i 2 == p || d.value .stop i 3 == p)

/-- R10: the STOP_PLATFORM check of one platform field (2 platform_a, 3 platform_b). -/
def stopPlatformFieldFails (d : Draft) (i field : Nat) : Bool :=
  let p := d.value .stop i field
  if p = 255 then false
  else
    let place : Int := if field = 2 then d.value .stop i 1 else (d.value .line 0 1 : Int) - d.value .stop i 1
    !(d.has .platform p) ||
    decide (d.value .platform p 2 ≠ (if field = 2 then 0 else 1)) ||
    ((List.range i).any fun j => stopNames d j p) ||
    decide (distance (d.value .platform p 3) place > d.value .line 0 8)

/-- R7: the checks of one record, in increasing check code, each with whether it fails. -/
def recordChecks (d : Draft) (k : Kind) (i : Nat) : List (Nat × Bool) :=
  let here := d.has k i
  [(1, recordRequired k i && !here),
   (2, here && lacksField d k i),
   (3, here && (k == .zone || k == .stop) && decide (0 < i) && !(d.has k (i - 1))),
   (4, fieldOrderFails d k i),
   (5, k == .zone && here && zoneStartFails d i),
   (6, k == .stop && here && stopPositionFails d i),
   (7, k == .stop && here && (stopPlatformFieldFails d i 2 || stopPlatformFieldFails d i 3)),
   (8, k == .platform && here && !((List.range 4).any fun j => stopNames d j i)),
   (9, k == .mark && here && markPositionFails d i),
   (10, k == .gate && here && !(d.has .platform (d.value .gate i 1)))]

/-- R7, R8: the records visited: the present ones, the required ones, and MARGIN and PROFILE (their defaults). -/
def visited (d : Draft) (k : Kind) (i : Nat) : Bool :=
  d.has k i || recordRequired k i || k == .margin || k == .profile

/-- R7: every kind and index, in the order of the visit. -/
def allRecords : List (Kind × Nat) := Kind.all.flatMap fun k => k.indexes.map fun i => (k, i)

/-- R7: the first failing check of a record. -/
def firstFailure (d : Draft) (k : Kind) (i : Nat) : Option Nat :=
  if visited d k i then ((recordChecks d k i).find? fun c => c.2).map (·.1) else none

/-- R7: validation stops at the first failure and gives its kind code, index and check code; none where all pass. -/
def validate (d : Draft) : Option (Nat × Nat × Nat) :=
  allRecords.findSome? fun r => (firstFailure d r.1 r.2).map fun c => (r.1.code, r.2, c)

/-! ### The active configuration -/

/-- The LINE record. -/
structure LineRec where
  length : Nat
  lineMax : Nat
  aNom : Nat
  aFloor : Nat
  overrun : Nat
  releaseSpeed : Nat
  overtravel : Nat
  stopWindow : Nat
  agreeWindow : Nat
  corrWindow : Nat
  idWindow : Nat
  rollbackLimit : Nat
  holdDriftLimit : Nat
  countsP : Nat
  countsQ : Nat
  refTravelLimit : Nat
  deriving DecidableEq, Repr

/-- The MARGIN record. -/
structure MarginRec where
  serviceAbs : Nat
  servicePct : Nat
  emergencyAbs : Nat
  emergencyPct : Nat
  profileMargin : Nat
  deriving DecidableEq, Repr

/-- The PROFILE record. -/
structure ProfileRec where
  accel : Nat
  creepSpeed : Nat
  creepDistance : Nat
  inspectionSpeed : Nat
  deriving DecidableEq, Repr

/-- The CAR record. -/
structure CarRec where
  capacity : Nat
  emptyMass : Nat
  personMass : Nat
  imbalanceLimit : Nat
  deriving DecidableEq, Repr

/-- A ZONE record. -/
structure ZoneRec where
  start : Nat
  speedLimit : Nat
  sensitivity : Nat
  deriving DecidableEq, Repr

/-- A PLATFORM record. -/
structure PlatformRec where
  station : Nat
  car : Car
  position : Nat
  side : Side
  autoWindow : Bool
  deriving DecidableEq, Repr

/-- A STOP record. -/
structure StopRec where
  x : Nat
  platformA : Option Nat
  platformB : Option Nat
  deriving DecidableEq, Repr

/-- A GATE record. -/
structure GateRec where
  platform : Nat
  enabled : Bool
  deriving DecidableEq, Repr

/-- Admission category of a fare class (PRIORITY 0, STAFF 1, STANDARD 2, GROUP 3). -/
inductive Category where
  | priority | staff | standard | group
  deriving DecidableEq, Repr

/-- A CLASS record. -/
structure ClassRec where
  category : Category
  enabled : Bool
  deriving DecidableEq, Repr

/-- The THRESHOLD record: the code of each category. -/
structure ThresholdRec where
  priority : Nat
  staff : Nat
  standard : Nat
  group : Nat
  deriving DecidableEq, Repr

/-- The TIMING record: its two-bit codes. -/
structure TimingRec where
  passage : Nat
  antiPassback : Nat
  doorClose : Nat
  brakeLift : Nat
  preparing : Nat
  deriving DecidableEq, Repr

/-- The DOOR record. -/
structure DoorRec where
  autoRelease : Bool
  obstructionRetries : Nat
  attended : Bool
  deriving DecidableEq, Repr

/-- R2: a complete line description, as the active configuration holds it. Counted records carry their index. -/
structure LineDesc where
  line : LineRec
  margin : MarginRec
  profile : ProfileRec
  car : CarRec
  zones : List ZoneRec
  platforms : List (Nat × PlatformRec)
  stops : List StopRec
  marks : List (Nat × Nat)
  gates : List (Nat × GateRec)
  classes : List ClassRec
  threshold : ThresholdRec
  timing : TimingRec
  door : DoorRec
  plan : Nat
  deriving DecidableEq, Repr

/-- Category by its code. -/
def Category.ofCode : Nat → Category
  | 0 => .priority | 1 => .staff | 3 => .group | _ => .standard

/-- The code of a category. -/
def Category.code : Category → Nat
  | .priority => 0 | .staff => 1 | .standard => 2 | .group => 3

/-- A platform field of a STOP record: 255 is NONE. -/
def platformField (v : Nat) : Option Nat := if v = 255 then none else some v

/-- The code of a flag. -/
def flagCode (b : Bool) : Nat := if b then 1 else 0

/-- R2: the complete description that a valid draft stands for, every default filled in. -/
def Draft.complete (d : Draft) : LineDesc where
  line := let v := d.value .line 0
    ⟨v 1, v 2, v 3, v 4, v 5, v 6, v 7, v 8, v 9, v 10, v 11, v 12, v 13, v 14, v 15, v 16⟩
  margin := let v := d.value .margin 0; ⟨v 1, v 2, v 3, v 4, v 5⟩
  profile := let v := d.value .profile 0; ⟨v 1, v 2, v 3, v 4⟩
  car := let v := d.value .car 0; ⟨v 1, v 2, v 3, v 4⟩
  zones := (Kind.zone.indexes.filter fun i => d.has .zone i).map fun i =>
    let v := d.value .zone i; ⟨v 1, v 2, v 3⟩
  platforms := (Kind.platform.indexes.filter fun i => d.has .platform i).map fun i =>
    let v := d.value .platform i
    (i, ⟨v 1, if v 2 = 0 then .a else .b, v 3, if v 4 = 0 then .left else .right, v 5 == 1⟩)
  stops := (Kind.stop.indexes.filter fun i => d.has .stop i).map fun i =>
    let v := d.value .stop i; ⟨v 1, platformField (v 2), platformField (v 3)⟩
  marks := (Kind.mark.indexes.filter fun i => d.has .mark i).map fun i => (i, d.value .mark i 1)
  gates := (Kind.gate.indexes.filter fun i => d.has .gate i).map fun i =>
    let v := d.value .gate i; (i, ⟨v 1, v 2 == 1⟩)
  classes := Kind.fareClass.indexes.map fun i =>
    let v := d.value .fareClass i; ⟨Category.ofCode (v 1), v 2 == 1⟩
  threshold := let v := d.value .threshold 0; ⟨v 1, v 2, v 3, v 4⟩
  timing := let v := d.value .timing 0; ⟨v 1, v 2, v 3, v 4, v 5⟩
  door := let v := d.value .door 0; ⟨v 1 == 1, v 2, v 3 == 1⟩
  plan := d.value .store 0 1

/-- A record with all of its fields, numbered from 1. -/
def fullRecord (k : Kind) (i : Nat) (vs : List Nat) : DraftRecord :=
  ⟨k, i, vs.zipIdx.map fun p => (p.2 + 1, p.1)⟩

/-- R2, R16: the draft that is an exact copy of an active configuration: every record and field present. -/
def LineDesc.toDraft (c : LineDesc) : Draft :=
  [fullRecord .line 0 [c.line.length, c.line.lineMax, c.line.aNom, c.line.aFloor, c.line.overrun, c.line.releaseSpeed,
      c.line.overtravel, c.line.stopWindow, c.line.agreeWindow, c.line.corrWindow, c.line.idWindow,
      c.line.rollbackLimit, c.line.holdDriftLimit, c.line.countsP, c.line.countsQ, c.line.refTravelLimit],
   fullRecord .margin 0 [c.margin.serviceAbs, c.margin.servicePct, c.margin.emergencyAbs, c.margin.emergencyPct,
      c.margin.profileMargin],
   fullRecord .profile 0 [c.profile.accel, c.profile.creepSpeed, c.profile.creepDistance, c.profile.inspectionSpeed],
   fullRecord .car 0 [c.car.capacity, c.car.emptyMass, c.car.personMass, c.car.imbalanceLimit]] ++
  (c.zones.zipIdx.map fun z => fullRecord .zone z.2 [z.1.start, z.1.speedLimit, z.1.sensitivity]) ++
  (c.platforms.map fun p => fullRecord .platform p.1 [p.2.station, if p.2.car = .a then 0 else 1, p.2.position,
      if p.2.side = .left then 0 else 1, flagCode p.2.autoWindow]) ++
  (c.stops.zipIdx.map fun s => fullRecord .stop s.2 [s.1.x, s.1.platformA.getD 255, s.1.platformB.getD 255]) ++
  (c.marks.map fun m => fullRecord .mark m.1 [m.2]) ++
  (c.gates.map fun g => fullRecord .gate g.1 [g.2.platform, flagCode g.2.enabled]) ++
  (c.classes.zipIdx.map fun f => fullRecord .fareClass f.2 [f.1.category.code, flagCode f.1.enabled]) ++
  [fullRecord .threshold 0 [c.threshold.priority, c.threshold.staff, c.threshold.standard, c.threshold.group],
   fullRecord .timing 0 [c.timing.passage, c.timing.antiPassback, c.timing.doorClose, c.timing.brakeLift,
      c.timing.preparing],
   fullRecord .door 0 [flagCode c.door.autoRelease, c.door.obstructionRetries, flagCode c.door.attended],
   fullRecord .store 0 [c.plan]]

/-- T_pass in ms. -/
def TimingRec.passageMs (t : TimingRec) : Nat := [4000, 6000, 8000, 12000].getD t.passage 6000

/-- T_pb in seconds, or none where anti-passback is off. -/
def TimingRec.passbackS (t : TimingRec) : Option Nat := [none, some 60, some 300, some 900].getD t.antiPassback (some 300)

/-- T_close in ms. -/
def TimingRec.doorCloseMs (t : TimingRec) : Nat := [10000, 20000, 30000, 45000].getD t.doorClose 20000

/-- T_lift in ms. -/
def TimingRec.brakeLiftMs (t : TimingRec) : Nat := [500, 1000, 1500, 2000].getD t.brakeLift 1000

/-- T_prep in ms. -/
def TimingRec.preparingMs (t : TimingRec) : Nat := [30000, 60000, 90000, 120000].getD t.preparing 60000

/-- The THRESHOLD code of a category. -/
def ThresholdRec.code (t : ThresholdRec) : Category → Nat
  | .priority => t.priority | .staff => t.staff | .standard => t.standard | .group => t.group

/-- R143: k_c of a threshold code (FULL 8, SEVEN_EIGHTHS 7, THREE_QUARTERS 6, HALF 4). -/
def thresholdEighths : Nat → Nat
  | 0 => 8 | 1 => 7 | 2 => 6 | _ => 4

/-- R53: the zone that contains a position is the last zone whose start is at or below it; a position below 0 lies in
zone 0. -/
def LineDesc.zoneAt (c : LineDesc) (x : Int) : Nat :=
  (c.zones.zipIdx.filter fun z => decide ((z.1.start : Int) ≤ x)).getLast?.elim 0 (·.2)

/-- The speed limit of a zone. -/
def LineDesc.zoneLimit (c : LineDesc) (z : Nat) : Nat := ((c.zones[z]?).map (·.speedLimit)).getD 0

/-- The PLATFORM record at an index. -/
def LineDesc.platform? (c : LineDesc) (p : Nat) : Option PlatformRec := c.platforms.lookup p

/-- The platform index that a stop names for a car. -/
def StopRec.platformFor (s : StopRec) : Car → Option Nat
  | .a => s.platformA
  | .b => s.platformB

/-- The platform index that stop `k` names for a car. -/
def LineDesc.stopPlatform? (c : LineDesc) (k : Nat) (car : Car) : Option Nat := (c.stops[k]?).bind (·.platformFor car)

/-- The GATE record at an address. -/
def LineDesc.gate? (c : LineDesc) (g : Nat) : Option GateRec := c.gates.lookup g

/-- The position of a known mark (R23). -/
def LineDesc.mark? (c : LineDesc) (n : Nat) : Option Nat := c.marks.lookup n

/-- R57: the cap of a speed class. -/
def LineDesc.classCap (c : LineDesc) : SpeedClass → Nat
  | .normal => c.line.lineMax
  | .reduced => c.line.lineMax / 2
  | .inspection => c.profile.inspectionSpeed

/-- R14: length, counts_p, counts_q or any MARK record changed against the configuration before. -/
def LineDesc.scaleChanged (new : LineDesc) : Option LineDesc → Bool
  | none => true
  | some old => decide (new.line.length ≠ old.line.length) || decide (new.line.countsP ≠ old.line.countsP) ||
      decide (new.line.countsQ ≠ old.line.countsQ) || decide (new.marks ≠ old.marks)

/-! ### The image (R12) -/

/-- The four bytes of a value, high byte first. -/
def bytes32 (n : Nat) : List Byte :=
  [BitVec.ofNat 8 (n / 16777216), BitVec.ofNat 8 (n / 65536), BitVec.ofNat 8 (n / 256), BitVec.ofNat 8 n]

/-- One bit of the reflected CRC-32 of R12. -/
def crc32Bit (c : BitVec 32) : BitVec 32 := if c.getLsbD 0 then (c >>> 1) ^^^ 0xEDB88320#32 else c >>> 1

/-- One byte of the CRC-32. -/
def crc32Byte (c : BitVec 32) (b : Byte) : BitVec 32 := Nat.repeat crc32Bit 8 (c ^^^ b.setWidth 32)

/-- R12: polynomial 0x04C11DB7 reflected, initial value 0xFFFFFFFF, final complement. -/
def crc32 (bs : List Byte) : BitVec 32 := ~~~(bs.foldl crc32Byte 0xFFFFFFFF#32)

/-- The bytes of one record of the contents; a counted record stands behind a presence flag. The byte layout inside the
image is not visible to the host (R12): DESIGN CHOICE, assumption log 7. -/
def imageRecordBytes (d : Draft) (k : Kind) (i : Nat) : List Byte :=
  match d.fields? k i with
  | none => if k.counted then [0#8] else []
  | some fs => (if k.counted then [1#8] else []) ++ fs.flatMap fun f => bytes32 f.2

/-- R12: every record of every kind, with a presence flag for each counted record. -/
def contentsBytes (d : Draft) : List Byte := allRecords.flatMap fun r => imageRecordBytes d r.1 r.2

/-- R12: what the nonvolatile image holds, in its order. `marker` is whether the format marker stands. -/
structure Image where
  marker : Bool
  format : Nat
  length : Nat
  sequence : Nat
  contents : Draft
  crc : BitVec 32
  deriving DecidableEq, Repr

/-- Everything that comes before the CRC (R12). The marker's value is DESIGN CHOICE, assumption log 7. -/
def imageBytes (i : Image) : List Byte :=
  bytes32 0x524D3632 ++ bytes32 i.format ++ bytes32 i.length ++ bytes32 i.sequence ++ contentsBytes i.contents

/-- R13: the image that a complete write leaves. -/
def writtenImage (c : LineDesc) (sequence : Nat) : Image :=
  let d := c.toDraft
  let i : Image := ⟨true, 1, (contentsBytes d).length, sequence, d, 0⟩
  { i with crc := crc32 (imageBytes i) }

/-- R16: the results of the start-up load. -/
inductive LoadResult where
  | loaded | imageAbsent | imageCrc | imageContent
  deriving DecidableEq, Repr

/-- R16: the load result of an image, with kind, index and check code for IMAGE_CONTENT. -/
def loadImage (i : Image) : LoadResult × Option (Nat × Nat × Nat) :=
  if !i.marker || decide (i.format ≠ 1) then (.imageAbsent, none)
  else if decide (i.length ≠ (contentsBytes i.contents).length) || decide (i.crc ≠ crc32 (imageBytes i)) then
    (.imageCrc, none)
  else
    match validate i.contents with
    | some f => (.imageContent, some f)
    | none => (.loaded, none)

end Sys2Proof.Machine
end

