-- ==== Sys2Proof/Machine/State.lean ====
section
/-! DEFINITION. The state of the part, block by block as 00_scope.md 1.2 lists the blocks, as plain data, and the state
right after reset. -/

namespace Sys2Proof.Machine

open Sys2Proof

/-- One value for each car. -/
structure Pair (α : Type) where
  a : α
  b : α
  deriving DecidableEq, Repr

/-- The value of a car. -/
def Pair.get {α : Type} (p : Pair α) : Car → α
  | .a => p.a
  | .b => p.b

/-- The pair with one car's value replaced. -/
def Pair.set {α : Type} (p : Pair α) (c : Car) (v : α) : Pair α :=
  match c with
  | .a => { p with a := v }
  | .b => { p with b := v }

/-- The other car. -/
def otherCar : Car → Car
  | .a => .b
  | .b => .a

/-! ### Configuration store (chapter 1) -/

/-- R1: the commit state. -/
inductive CommitState where
  | loading | idle | writing
  deriving DecidableEq, Repr

/-- R1: the configuration store. `loadResult` holds a value from reset on (`ConfigStore.reset`). `held` is the sequence byte
of the reply held until the image write ends (R11). -/
structure ConfigStore where
  commit : CommitState
  draft : Draft
  active : Option LineDesc
  image : Image
  sequence : Nat
  loadResult : LoadResult
  loadFailure : Option (Nat × Nat × Nat)
  held : Option Byte
  deriving DecidableEq, Repr

/-! ### Position monitor (chapter 2) -/

/-- R18, R20: one encoder channel: travel count, offset, base, the positions of the last 8 samples (oldest first), and
the travel count at the previous sample, from which travel P and travel Q are taken (R19). -/
structure Channel where
  count : Int
  offset : Int
  base : Int
  history : List Int
  lastCount : Int
  deriving DecidableEq, Repr

/-- R22: the position state (UNREFERENCED 0, CONFIRMED 1, DISPUTED 2). -/
inductive PosState where
  | unreferenced | confirmed | disputed
  deriving DecidableEq, Repr

/-- R21: motion. -/
inductive Motion where
  | up | down | none
  deriving DecidableEq, Repr

/-- R28: the side on which channel P entered the band of the armed mark. -/
inductive EntrySide where
  | below | above
  deriving DecidableEq, Repr

/-- R19: the sample view, the readings that the other blocks use until the next sample completes, and the four mark
counters as they stood at it, which STATUS shows from the latest view (R35). -/
structure View where
  xP : Int
  xQ : Int
  vP : Int
  vQ : Int
  vm : Nat
  motion : Motion
  travelP : Int
  travelQ : Int
  pos : PosState
  standstill : Bool
  settled : Bool
  atStop : Option Nat
  hold : Option (Int × Int)
  corrected : Nat
  mismatch : Nat
  unexpected : Nat
  missed : Nat
  deriving DecidableEq, Repr

/-- The position monitor. `movedInto` is the mark into whose band an offset change has moved channel P since the previous
sample, and `bandTestDue` says that the missed-mark test has still to begin (R28). `published` says whether a view has been
published since reset (R102). `oldWindows` holds W_corr and W_id of the configuration before an activation, by which mark events
are still tested until the next sample (R14). -/
structure Monitor where
  p : Channel
  q : Channel
  vmHistory : List Nat
  pos : PosState
  excess : Nat
  resolving : Bool
  armed : Option (Nat × EntrySide)
  movedInto : Option Nat
  bandTestDue : Bool
  missedRun : Nat
  corrected : Nat
  mismatch : Nat
  unexpected : Nat
  missed : Nat
  diverged : Bool
  still : Nat
  hold : Option (Int × Int)
  rollback : Nat
  forwardRun : Nat
  view : View
  published : Bool
  oldWindows : Option (Nat × Nat)
  deriving DecidableEq, Repr

/-! ### Load estimator (chapter 3) -/

/-- R37: the live figures of one car. -/
structure CarLoad where
  onboard : Nat
  pending : Nat
  inflight : Nat
  weigh : Option Nat
  payloadCount : Nat
  fromWeigh : Bool
  payload : Nat
  gross : Nat
  deriving DecidableEq, Repr

/-- R37: the live figures of one direction: U, the within-limit flag, one a_eff for each zone. -/
structure DirLoad where
  u : Nat
  within : Bool
  aEff : List Nat
  deriving DecidableEq, Repr

/-- R37: the live load record. -/
structure LiveLoad where
  cars : Pair CarLoad
  up : DirLoad
  down : DirLoad
  deriving DecidableEq, Repr

/-- R46: the trip snapshot. -/
structure Snapshot where
  departure : Nat
  dir : Dir
  payload : Pair Nat
  fromWeigh : Pair Bool
  u : Nat
  aEff : List Nat
  deriving DecidableEq, Repr

/-- R49: what STATUS shows of the load estimator. -/
structure LoadFigures where
  live : Option LiveLoad
  implausible : Pair Nat
  snapshot : Option Snapshot
  deriving DecidableEq, Repr

/-- The load estimator; the live figures are absent while there is no active configuration (R37). `passing` holds the
figures between the two changes of the car status record just taken, for a STATUS request that falls there (R43; DESIGN
CHOICE, assumption log 44). -/
structure Estimator where
  live : Option LiveLoad
  passing : Option LoadFigures
  implausible : Pair Nat
  snapshot : Option Snapshot
  deriving DecidableEq, Repr

/-! ### Envelope calculator (chapter 4) -/

/-- R50: kind of a restriction. -/
inductive RestrictionKind where
  | zone | destination
  deriving DecidableEq, Repr

/-- R50: one entry of the restriction list, with the distance and v_r of the latest view. -/
structure Restriction where
  kind : RestrictionKind
  position : Nat
  target : Nat
  ar : Nat
  distance : Int
  vr : Nat
  deriving DecidableEq, Repr

/-- R61: the level of an envelope result, from lowest to highest. -/
inductive Level where
  | none | warning | service | emergency
  deriving DecidableEq, Repr

/-- R51: the envelope result of a view. -/
structure EnvResult where
  view : View
  vm : Nat
  vPerm : Nat
  warning : Nat
  service : Nat
  emergency : Nat
  lineMax : Nat
  level : Level
  lineMaxFlag : Bool
  restrictions : List Restriction
  zoneTerm : Nat
  cap : Option Nat
  deriving DecidableEq, Repr

/-- R50: the envelope calculator. -/
structure Envelope where
  list : List Restriction
  zoneOfRecord : Option Nat
  cap : Option Nat
  pendingCap : Option Nat
  vPerm : Nat
  result : EnvResult
  deriving DecidableEq, Repr

/-! ### Trip controller (chapter 5) -/

/-- R64: kind of a trip. -/
inductive TripKind where
  | normal | recovery | reference
  deriving DecidableEq, Repr

/-- R64: the reason of a controlled stop. -/
inductive StopReason where
  | stopped | alarm | markFound
  deriving DecidableEq, Repr

/-- R64: the trip record. -/
structure TripRecord where
  kind : TripKind
  origin : Option Nat
  destination : Option Nat
  dir : Dir
  cls : SpeedClass
  departure : Nat
  profileCap : Option Nat
  controlled : Option StopReason
  markFound : Bool
  refTravel : Nat
  overtravel : Bool
  deriving DecidableEq, Repr

/-- R65: the trip state; the stop number of PARKED is part of the state. -/
inductive TripState where
  | unconfigured | stranded | parked (stop : Nat) | preparing | lifting | running | creeping | settling | intervened
  deriving DecidableEq, Repr

/-- R88: the reason of a TRIP report, in the order of its table. -/
inductive TripReason where
  | dispatched | lifting | lifted | creep | settle | arrived | stopped | alarm | markFound
  | timeout | doors | latch | position | carLink | drive | imbalance | attendant
  | intervention | intervenedEnd | liftFail | config
  deriving DecidableEq, Repr

/-- R80: the last valid drive status. -/
inductive DriveLast where
  | none | ready | running | fault
  deriving DecidableEq, Repr

/-- R72: the phase of a lift. -/
inductive LiftPhase where
  | drive | brake
  deriving DecidableEq, Repr

/-- The trip controller. A running timer holds the period it was started with, in ms. `driveHeard` says that a valid
drive status has arrived since the previous reference was sent (R80). -/
structure TripCtl where
  state : TripState
  record : Option TripRecord
  vRef : Nat
  step : Nat
  holdWait : Bool
  tPrep : Option Nat
  tLift : Option Nat
  liftPhase : LiftPhase
  departures : Nat
  lastAbandon : Option TripReason
  driveLast : DriveLast
  driveFaultCode : Nat
  driveTorque : Int
  driveMissed : Nat
  driveHeard : Bool
  progress : Option (Int × Nat)
  deriving DecidableEq, Repr

/-! ### Brake supervisor (chapter 6) -/

/-- The causes, in the order of the table of 6.4. -/
inductive Cause where
  | overspeedEmergency | lineMax | rollback | driftUnderBrake | divergence | doorUnlockedRun | overtravel
  | insufficientDecel | sbStuck | ebStuck | startUp | overspeedService | noProgress | driveLost | driveFault
  | carLinkLostRun | doorWithoutAuthority | wrongSide | referenceNotFound | liftFail | markMismatch | unexpectedMark
  deriving DecidableEq, Repr

/-- The severity of a cause. -/
inductive Severity where
  | emergency | service | recordOnly
  deriving DecidableEq, Repr

/-- R94: the state of the brake supervisor. -/
inductive SupState where
  | normal | warning | service | emergency
  deriving DecidableEq, Repr

/-- R102: an entry of the fault capture list. -/
structure Capture where
  cause : Cause
  severity : Severity
  firstDeparture : Nat
  lastDeparture : Nat
  count : Nat
  x : Option Int
  deriving DecidableEq, Repr

/-- R99: the result of the last escalation check. -/
inductive CheckResult where
  | notMade | passedStill | passed (aMeas : Int) | failed (aMeas : Int)
  deriving DecidableEq, Repr

/-- R90: one brake: its commanded value, its feedback contact, its apply timer, its stuck condition, and whether the
feedback has read LIFTED since the command last became LIFTED (for the feedback disagreement flag). -/
structure BrakeLine where
  command : Contact
  feedback : Contact
  applyTimer : Option Nat
  stuck : Bool
  liftDone : Bool
  deriving DecidableEq, Repr

/-- The brake supervisor. The intervention latch is set exactly in SERVICE and EMERGENCY (R94): `BrakeSup.latch`. -/
structure BrakeSup where
  sb : BrakeLine
  eb : BrakeLine
  de : Bool
  state : SupState
  escalation : Option Nat
  check : CheckResult
  requiredDecel : Nat
  ebLift : Option Nat
  captures : List Capture
  overflow : Bool
  interventions : Nat
  lastLevel : Level
  lastFlag : Bool
  drops : Nat
  deriving DecidableEq, Repr

/-- R94: the intervention latch. -/
def BrakeSup.latch (b : BrakeSup) : Bool :=
  match b.state with
  | .service | .emergency => true
  | .normal | .warning => false

/-! ### Car link controllers and door release controller (chapter 7) -/

/-- R118: a door command. -/
inductive DoorCommand where
  | openDoors | closeDoors | reopen
  deriving DecidableEq, Repr

/-- R111: the fields of a car command record. -/
structure CarCommand where
  authority : Option Side
  command : Option DoorCommand
  tag : Nat
  departing : Bool
  outOfService : Bool
  stopping : Bool
  flag1 : Bool
  flag2 : Bool
  deriving DecidableEq, Repr

/-- A car link controller. `shown` is the car command record formed last (R111). -/
structure CarLink where
  live : Bool
  liveness : Option Nat
  recordErrors : Nat
  takenTag : Option Nat
  counters : Option (BitVec 16 × BitVec 16)
  baselines : Option (BitVec 16 × BitVec 16)
  onboard : Nat
  weigh : Option Nat
  attendant : Attendant
  faults : CarFaults
  slot : Option DoorCommand
  tag : Nat
  flag1 : Bool
  flag2 : Bool
  shown : CarCommand
  deriving DecidableEq, Repr

/-- R119: the door states. -/
inductive DoorState where
  | unknown | locked | released | opened | unsecured | closing | held
  deriving DecidableEq, Repr

/-- R119: the phase of a close cycle. -/
inductive CyclePhase where
  | window | close | reopen
  deriving DecidableEq, Repr

/-- The door release controller of one car (R119). -/
structure DoorCtl where
  state : DoorState
  authority : Option Side
  retry : Nat
  cycle : Option CyclePhase
  tClose : Option Nat
  left : DoorReport
  right : DoorReport
  arrival : Bool
  memUnlocked : Bool
  memNoAuthority : Bool
  memWrongSide : Bool
  deriving DecidableEq, Repr

/-! ### Boarding controller (chapter 8) -/

/-- R133: the state of a boarding window. -/
inductive WindowState where
  | shut | opened | closing
  deriving DecidableEq, Repr

/-- R137: the closing reason. -/
inductive CloseReason where
  | host | preparing | authority | doors | link | doorClose
  deriving DecidableEq, Repr

/-- R133: a boarding window. -/
structure Window where
  state : WindowState
  platform : Option Nat
  pending : Nat
  inflight : Nat
  reason : Option CloseReason
  granted : Nat
  committed : Nat
  released : Nat
  unverified : Nat
  carryIn : Nat
  deferred : Bool
  deriving DecidableEq, Repr

/-- R145: a passage grant. -/
structure Grant where
  gate : Nat
  car : Car
  platform : Nat
  kind : CredKind
  id : Nat
  category : Category
  passIndex : Option Nat
  day : Nat
  second : Nat
  timer : Nat
  deriving DecidableEq, Repr

/-- The boarding controller: windows, carry-over of the platform indexes 0 to 5, passage grants. -/
structure Boarding where
  windows : Pair Window
  carry : List Nat
  grants : List Grant
  deriving DecidableEq, Repr

/-! ### Gate bus controller and credential store (chapter 9) -/

/-- R152: the state of a gate. -/
inductive GateState where
  | disabled | online | offline
  deriving DecidableEq, Repr

/-- R152, R157: an open decision that waits for its credit answer: the presented credential, what its credit request
carries beside it (the gate's platform, the category, the pass table index: R144, R159), and the rides shown with an
ADMIT. -/
structure Decision where
  credential : Credential
  platform : Option Nat
  category : Category
  passIndex : Option Nat
  rides : Nat
  deriving DecidableEq, Repr

/-- The kind of the presented credential. -/
def Decision.kind (x : Decision) : CredKind := x.credential.kind

/-- The id of the presented credential. -/
def Decision.id (x : Decision) : Nat := x.credential.id.toNat

/-- R152: a gate entry. -/
structure Gate where
  state : GateState
  platform : Option Nat
  misses : Nat
  missCount : Nat
  protocolErrors : Nat
  lock : Bool
  faultCode : Option Nat
  decision : Option Decision
  deriving DecidableEq, Repr

/-- The gate bus controller: the entries of the addresses 1 to 12, the poll position, and the poll that waits for its
answer with the lock flag it carried (R153, R155). -/
structure GateBus where
  gates : List Gate
  position : Nat
  outstanding : Option (Nat × Bool)
  deriving DecidableEq, Repr

/-- R163: a pass record. `lastEntry` is the day and second of the last charged passage, with its platform. -/
structure PassRec where
  id : Nat
  cls : Nat
  firstDay : Nat
  lastDay : Nat
  rides : Nat
  lastEntry : Option (Nat × Nat)
  lastPlatform : Option Nat
  deriving DecidableEq, Repr

/-- R168: the kind of a deny list entry. -/
inductive DenyKind where
  | pass | token | either
  deriving DecidableEq, Repr

/-- R168: a deny list entry. -/
structure DenyRec where
  base : Nat
  k : Nat
  kind : DenyKind
  deriving DecidableEq, Repr

/-- R160: the state of the credential store. -/
inductive StoreState where
  | clearing | ready
  deriving DecidableEq, Repr

/-- The credential store. `clearRunning` tells a clear in progress from the wait between reset and the first clear
(R161). -/
structure CredStore where
  state : StoreState
  clearRunning : Bool
  plan : Nat
  passes : List PassRec
  ring : List Nat
  deny : List DenyRec
  classes : List ClassRec
  cursor : Nat
  cursorDir : Dir
  day : Nat
  clock : Nat
  deriving DecidableEq, Repr

/-! ### Supervisor link port and partner links (chapters 10 and 11) -/

/-- R172: the state of a receive assembler. -/
inductive AsmPhase where
  | hunt | header | body
  deriving DecidableEq, Repr

/-- R172: a receive assembler: its state, the length byte kept, the bytes stored after it, and whether the 20 ms
byte-gap timer runs. -/
structure Assembler where
  phase : AsmPhase
  length : Nat
  stored : List Byte
  gap : Bool
  deriving DecidableEq, Repr

/-- R175: the results, in the order of their codes. -/
inductive Result where
  | ok | busy | state | range | full | duplicate | absent | unknown | invalid | length
  deriving DecidableEq, Repr

/-- A value of a layout of 11.1, with its width. -/
inductive Item where
  | u8 (n : Nat) | u16 (n : Nat) | u32 (n : Nat) | i8 (z : Int) | i16 (z : Int) | i32 (z : Int)
  deriving DecidableEq, Repr

/-- R178: the common part of a STATUS reply. -/
structure StatusCommon where
  configured : Bool
  trip : TripState
  pos : PosState
  supervisor : SupState
  latch : Bool
  store : StoreState
  linkErrors : Nat
  dropped : Bool
  reportsWaiting : Nat
  repliesWaiting : Nat
  deriving DecidableEq, Repr

/-- The payload of a reply (11.1): a result alone, an OK with its "no change" byte, or an OK with its data. -/
inductive ReplyBody where
  | plain (r : Result)
  | done (noChange : Bool)
  | invalid (kind index check : Nat)
  | record (fields : List (Nat × Option Nat))
  | passLoaded (replaced : Bool) (index : Nat)
  | passes (records : List PassRec) (cursor : Nat)
  | faults (entries : List Capture) (overflow : Bool) (interventions : Nat) (state : SupState) (latch : Bool)
  | status (common : StatusCommon) (pages : Nat) (items : List Item)
  deriving DecidableEq, Repr

/-- A reply: its type (request type + 0x80), the echoed sequence byte, and its payload (R174). -/
structure Reply where
  typ : Byte
  seq : Byte
  body : ReplyBody
  deriving DecidableEq, Repr

/-- R108: the event of an INTERVENTION report. -/
inductive InterventionEvent where
  | service | emergency | escalated | reset | ebLifted
  deriving DecidableEq, Repr

/-- R121: the reason of a withdrawal. -/
inductive WithdrawReason where
  | condition | link | step2 | closed | activation
  deriving DecidableEq, Repr

/-- R128: the reason of an entry to HELD. -/
inductive HeldReason where
  | obstruction | timeout
  deriving DecidableEq, Repr

/-- R131: the event of a DOOR report; ATTENDANT gives the flags before (R116). -/
inductive DoorEvent where
  | linkLive | linkLost
  | attendant (before : Attendant)
  | carFault
  | granted
  | withdrawn (reason : WithdrawReason)
  | held (reason : HeldReason)
  deriving DecidableEq, Repr

/-- R151: the event of a WINDOW report with its fields. -/
inductive WindowEvent where
  | opened (carryIn dropped : Nat)
  | closing (reason : CloseReason) (inflight : Nat)
  | shut (reason : CloseReason) (granted committed released unverified carryIn carryOut : Nat)
  | carryCleared (count : Nat)
  deriving DecidableEq, Repr

/-- R171: the event of a GATE report with its fields. -/
inductive GateEvent where
  | online (gate : Nat) (platform station : Option Nat) (state : GateState) (missCount : Nat)
  | offline (gate : Nat) (platform station : Option Nat) (state : GateState) (missCount : Nat)
  | enabled (gate : Nat) (state : GateState)
  | disabled (gate : Nat) (state : GateState)
  | fault (gate code : Nat) (granted : Bool)
  | storeClearing (plan : Nat)
  | storeReady (plan passes ring : Nat)
  deriving DecidableEq, Repr

/-- R177: a report, with the fields of its rule. -/
inductive Report where
  | trip (departure : Nat) (kind : Option TripKind) (before after : TripState) (stop : Option Nat) (reason : TripReason)
      (xP : Int)
  | intervention (event : InterventionEvent) (cause : Option Cause) (state : SupState) (departure : Nat) (xP : Int)
      (vm vPerm counter : Nat)
  | warning (departure : Nat) (xP : Int) (vm vPerm threshold : Nat)
  | fault (cause : Cause) (severity : Severity) (departure : Nat) (xP : Int) (count : Option Nat) (state : SupState)
  | loadFault (result : LoadResult) (failure : Option (Nat × Nat × Nat))
  | door (car : Car) (event : DoorEvent) (state : DoorState) (authority : Option Side) (left right : DoorReport)
      (retry : Nat) (attendant : Attendant) (faults : CarFaults) (departure : Nat)
  | window (event : WindowEvent) (car : Car) (platform station : Nat) (state : WindowState) (departure : Nat)
  | gate (event : GateEvent)
  | position (stateChange mismatch unexpected missed : Bool) (mark : Option Nat) (pos : PosState) (xP xQ : Int)
  deriving DecidableEq, Repr

/-- R176: a frame in transmission. -/
inductive OutFrame where
  | reply (r : Reply)
  | report (r : Report)
  deriving DecidableEq, Repr

/-- The supervisor link port (R180). `restarting` says that a RESTART has been accepted (R179). -/
structure Port where
  rx : Assembler
  replies : List Reply
  reports : List Report
  sending : Option OutFrame
  linkErrors : Nat
  dropped : Bool
  restarting : Bool
  deriving DecidableEq, Repr

/-- The reasons of a REFUSE, in the order of their codes (11.2). -/
inductive RefuseReason where
  | outOfService | gateBusy | noCar | classBlocked | denied | unknownPass | expired | noRides | passback | wrongDay
  | spent | full
  deriving DecidableEq, Repr

/-- R181, 11.2: a record that the part sends on a partner link. A verdict with no reason is ADMIT. -/
inductive LinkRecord where
  | carCommand (fields : CarCommand)
  | driveReference (speed : Int) (de : Bool)
  | poll (gate : Nat) (lock : Bool)
  | verdict (gate : Nat) (refuse : Option RefuseReason) (rides : Nat)
  deriving DecidableEq, Repr

/-- R181: one partner link: its assembler, the record being sent, and the newest waiting record of each kind. -/
structure LinkPort where
  rx : Assembler
  sending : Option LinkRecord
  waiting : List LinkRecord
  deriving DecidableEq, Repr

/-- The partner links. -/
structure Links where
  gateBus : LinkPort
  carA : LinkPort
  carB : LinkPort
  driveLine : LinkPort
  deriving DecidableEq, Repr

/-- An internal notice from one block to another that has been sent and not yet taken: a raised cause on its way to the
brake supervisor (R96), a car's window SHUT on its way to the door release controller and the trip controller (R139), a
change of a car's door state on its way to the trip controller (R129). -/
inductive Notice where
  | cause (c : Cause)
  | windowShut (car : Car)
  | doorChanged (car : Car)
  deriving DecidableEq, Repr

/-- The state of the part. `pending` is the queue of commands that wait, first in, first out; `notices` and `draws` are the
model's own: the internal notices not yet taken (none between steps, DESIGN CHOICE, assumption log 5) and the number of free
values drawn so far (DESIGN CHOICE, assumption log 2). -/
structure State where
  cfg : ConfigStore
  pos : Monitor
  load : Estimator
  env : Envelope
  trip : TripCtl
  brake : BrakeSup
  link : Pair CarLink
  door : Pair DoorCtl
  board : Boarding
  bus : GateBus
  store : CredStore
  port : Port
  wires : Links
  pending : List Instr
  notices : List Notice
  draws : Nat
  deriving DecidableEq, Repr

/-- Why a step stops with a fault. It has no constructor: every command of this part has an effect that the manual
gives, so no step faults (INVENTORY.md, Faults). Safe: nothing can be claimed of a stop that does not happen. -/
inductive Fault : Type where
  deriving DecidableEq, Repr

/-- Why a step is refused. -/
inductive Refusal where
  /-- Raised by `exec` for a command that has no meaning yet. Safe: nothing can be claimed of what it does. -/
  | notModelled (mnemonic : String)
  deriving DecidableEq, Repr

/-! ### Reset -/

/-- The attendant flags all clear. -/
def Attendant.clear : Attendant := ⟨false, false, false, false⟩

/-- The car fault flags all clear. -/
def CarFaults.clear : CarFaults := ⟨false, false⟩

/-- R180, R172: an assembler after reset. -/
def Assembler.idle : Assembler := ⟨.hunt, 0, [], false⟩

/-- R18, R20: a channel after reset. -/
def Channel.reset : Channel := ⟨0, 0, 0, List.replicate 8 0, 0⟩

/-- R36: the sample view after reset. -/
def View.reset : View := ⟨0, 0, 0, 0, 0, .none, 0, 0, .unreferenced, false, false, none, none, 0, 0, 0, 0⟩

/-- R36: the position monitor after reset. -/
def Monitor.reset : Monitor where
  p := Channel.reset
  q := Channel.reset
  vmHistory := List.replicate 50 0
  pos := .unreferenced
  excess := 0
  resolving := false
  armed := none
  movedInto := none
  bandTestDue := true
  missedRun := 0
  corrected := 0
  mismatch := 0
  unexpected := 0
  missed := 0
  diverged := false
  still := 0
  hold := none
  rollback := 0
  forwardRun := 0
  view := View.reset
  published := false
  oldWindows := none

/-- R62: the envelope result shown before the first view: v_perm 0, level NONE, no entries. The spec gives no thresholds and
no zone limit term before it; they are 0 (DESIGN CHOICE, assumption log 41). -/
def EnvResult.reset : EnvResult := ⟨View.reset, 0, 0, 0, 0, 0, 0, .none, false, [], 0, none⟩

/-- R50: the envelope calculator after reset. -/
def Envelope.reset : Envelope := ⟨[], none, none, none, 0, EnvResult.reset⟩

/-- R66: the trip controller after reset; the trip state while LOADING is DESIGN CHOICE, assumption log 8. The drive's fault
code and torque, which the spec gives no value before the first valid status, are 0 (DESIGN CHOICE, assumption log 41). -/
def TripCtl.reset : TripCtl where
  state := .unconfigured
  record := none
  vRef := 0
  step := 0
  holdWait := false
  tPrep := none
  tLift := none
  liftPhase := .drive
  departures := 0
  lastAbandon := none
  driveLast := .none
  driveFaultCode := 0
  driveTorque := 0
  driveMissed := 0
  driveHeard := false
  progress := none

/-- R89, R90, R107: a brake after reset, for a feedback reading: commanded APPLIED, the apply timer running where the
feedback reads LIFTED. -/
def BrakeLine.reset (feedback : Contact) : BrakeLine :=
  ⟨.applied, feedback, if feedback = .lifted then some Config.applyTimerMs else none, false, false⟩

/-- R103: the entry START_UP, in the list from reset. -/
def Capture.startUp : Capture := ⟨.startUp, .emergency, 0, 0, 1, none⟩

/-- R107: the brake supervisor after reset, for the readings of the SB and EB contacts. -/
def BrakeSup.reset (sbFeedback ebFeedback : Contact) : BrakeSup where
  sb := BrakeLine.reset sbFeedback
  eb := BrakeLine.reset ebFeedback
  de := false
  state := .emergency
  escalation := none
  check := .notMade
  requiredDecel := 0
  ebLift := none
  captures := [Capture.startUp]
  overflow := false
  interventions := 0
  lastLevel := .none
  lastFlag := false
  drops := 0

/-- R111: the car command record whose fields hold after reset: the latch is set, so OUT_OF_SERVICE is set. -/
def CarCommand.reset : CarCommand := ⟨none, none, 0, false, true, false, false, false⟩

/-- R132: a car link controller after reset. -/
def CarLink.reset : CarLink where
  live := false
  liveness := none
  recordErrors := 0
  takenTag := none
  counters := none
  baselines := none
  onboard := 0
  weigh := none
  attendant := Attendant.clear
  faults := CarFaults.clear
  slot := none
  tag := 0
  flag1 := false
  flag2 := false
  shown := CarCommand.reset

/-- R119, R132: the door release controller of a car after reset; the side reports are DESIGN CHOICE, assumption log 9. -/
def DoorCtl.reset : DoorCtl := ⟨.unknown, none, 0, none, none, .locked, .locked, false, false, false, false⟩

/-- R133: a boarding window after reset. -/
def Window.reset : Window := ⟨.shut, none, 0, 0, none, 0, 0, 0, 0, 0, false⟩

/-- R152: a gate entry after reset. -/
def Gate.reset : Gate := ⟨.disabled, none, 0, 0, 0, false, none, none⟩

/-- R160, R161, R169, R170: the credential store after reset. -/
def CredStore.reset : CredStore :=
  ⟨.clearing, false, 0, [], [], [], List.replicate 16 ⟨.standard, true⟩, 0, .up, 0, 0⟩

/-- R180: the supervisor link port after reset. -/
def Port.reset : Port := ⟨Assembler.idle, [], [], none, 0, false, false⟩

/-- R181, R172: a partner link after reset: its assembler in HUNT (R172). R180 has the transmitter of the supervisor link free
after reset, and no rule says it of a partner link; the model has nothing being sent there and nothing waiting (DESIGN CHOICE,
assumption log 54). -/
def LinkPort.reset : LinkPort := ⟨Assembler.idle, none, []⟩

/-- R1, R16: the configuration store after reset: LOADING, with an image. R1 gives the draft, the image sequence and the load
result once the load has ended; until then the draft is empty, the sequence 0 and the load result LOADED, whose code is 0,
without a failure (DESIGN CHOICE, assumption log 41). -/
def ConfigStore.reset (image : Image) : ConfigStore := ⟨.loading, [], none, image, 0, .loaded, none, none⟩

/-- The image of a part whose nonvolatile memory has never been written (DESIGN CHOICE, assumption log 6). -/
def Image.blank : Image := ⟨false, 0, 0, 0, [], 0⟩

/-- The part after a reset that finds an image and the readings of the two feedback contacts, which a reset does not
alter (00_scope.md 3.6, R1, R90). -/
def State.resetWith (image : Image) (sbFeedback ebFeedback : Contact) : State where
  cfg := ConfigStore.reset image
  pos := Monitor.reset
  load := ⟨none, none, ⟨0, 0⟩, none⟩
  env := Envelope.reset
  trip := TripCtl.reset
  brake := BrakeSup.reset sbFeedback ebFeedback
  link := ⟨CarLink.reset, CarLink.reset⟩
  door := ⟨DoorCtl.reset, DoorCtl.reset⟩
  board := ⟨⟨Window.reset, Window.reset⟩, List.replicate 6 0, []⟩
  bus := ⟨List.replicate 12 Gate.reset, 0, none⟩
  store := CredStore.reset
  port := Port.reset
  wires := ⟨LinkPort.reset, LinkPort.reset, LinkPort.reset, LinkPort.reset⟩
  pending := []
  notices := []
  draws := 0

/-- The machine right after power-on: blank image, both brakes reading APPLIED (DESIGN CHOICE, assumption log 6). -/
def State.reset : State := State.resetWith Image.blank .applied .applied

/-! ### Block updates -/

/-- The configuration store changed. -/
def State.modCfg (s : State) (f : ConfigStore → ConfigStore) : State := { s with cfg := f s.cfg }
/-- The position monitor changed. -/
def State.modPos (s : State) (f : Monitor → Monitor) : State := { s with pos := f s.pos }
/-- The load estimator changed. -/
def State.modLoad (s : State) (f : Estimator → Estimator) : State := { s with load := f s.load }
/-- The envelope calculator changed. -/
def State.modEnv (s : State) (f : Envelope → Envelope) : State := { s with env := f s.env }
/-- The trip controller changed. -/
def State.modTrip (s : State) (f : TripCtl → TripCtl) : State := { s with trip := f s.trip }
/-- The brake supervisor changed. -/
def State.modBrake (s : State) (f : BrakeSup → BrakeSup) : State := { s with brake := f s.brake }
/-- One car's link controller changed. -/
def State.modLink (s : State) (c : Car) (f : CarLink → CarLink) : State :=
  { s with link := s.link.set c (f (s.link.get c)) }
/-- One car's door release controller changed. -/
def State.modDoor (s : State) (c : Car) (f : DoorCtl → DoorCtl) : State :=
  { s with door := s.door.set c (f (s.door.get c)) }
/-- The boarding controller changed. -/
def State.modBoard (s : State) (f : Boarding → Boarding) : State := { s with board := f s.board }
/-- The gate bus controller changed. -/
def State.modBus (s : State) (f : GateBus → GateBus) : State := { s with bus := f s.bus }
/-- The credential store changed. -/
def State.modStore (s : State) (f : CredStore → CredStore) : State := { s with store := f s.store }
/-- The supervisor link port changed. -/
def State.modPort (s : State) (f : Port → Port) : State := { s with port := f s.port }
/-- The partner links changed. -/
def State.modWires (s : State) (f : Links → Links) : State := { s with wires := f s.wires }
/-- One more internal notice sent. -/
def State.send (s : State) (n : Notice) : State := { s with notices := s.notices ++ [n] }

end Sys2Proof.Machine
end

