-- ==== Sys2Proof/Machine/Operands.lean ====
section
/-! DEFINITION. The operand forms: the fields of request payloads (11.1) and of gate, car and drive records (11.2), read
from bytes, high byte first. A reader answers none where the payload has not the length of its type. -/

namespace Sys2Proof.Machine

open Sys2Proof

/-- Two bytes, high byte first. -/
def be16 (h l : Byte) : Nat := h.toNat * 256 + l.toNat

/-- Four bytes, high byte first. -/
def be32 (a b c d : Byte) : Nat := ((a.toNat * 256 + b.toNat) * 256 + c.toNat) * 256 + d.toNat

/-- Car code: A 0, B 1. -/
def carOfCode (b : Byte) : Option Car :=
  match b.toNat with
  | 0 => some .a
  | 1 => some .b
  | _ => none

/-- Direction code: UP 0, DOWN 1. -/
def dirOfCode (b : Byte) : Option Dir :=
  match b.toNat with
  | 0 => some .up
  | 1 => some .down
  | _ => none

/-- Speed class code: NORMAL 0, REDUCED 1, INSPECTION 2. -/
def classOfCode (b : Byte) : Option SpeedClass :=
  match b.toNat with
  | 0 => some .normal
  | 1 => some .reduced
  | 2 => some .inspection
  | _ => none

/-- Kind code of a deny entry: PASS 0, TOKEN 1, EITHER 2. -/
def denyKindOfCode (b : Byte) : Option DenyKind :=
  match b.toNat with
  | 0 => some .pass
  | 1 => some .token
  | 2 => some .either
  | _ => none

/-- A payload of no bytes. -/
def noPayload : List Byte → Option Unit
  | [] => some ()
  | _ => none

/-- A payload of one byte. -/
def onePayload : List Byte → Option Byte
  | [x] => some x
  | _ => none

/-- A payload of two bytes. -/
def twoPayload : List Byte → Option (Byte × Byte)
  | [x, y] => some (x, y)
  | _ => none

/-- SET DAY: day 2. -/
def wordPayload : List Byte → Option Nat
  | [h, l] => some (be16 h l)
  | _ => none

/-- SET CLOCK and PASS DELETE: a value of 4 bytes. -/
def longPayload : List Byte → Option Nat
  | [a, b, c, d] => some (be32 a b c d)
  | _ => none

/-- SET ONBOARD: car 1, count 2. -/
def onboardPayload : List Byte → Option (Byte × Nat)
  | [c, h, l] => some (c, be16 h l)
  | _ => none

/-- CURSOR SET: index 2, direction 1. -/
def cursorPayload : List Byte → Option (Nat × Byte)
  | [h, l, d] => some (be16 h l, d)
  | _ => none

/-- PASS LOAD: id 4, class 1, first day 2, last day 2, rides 2. -/
def passPayload : List Byte → Option PassRec
  | [a, b, c, d, cls, f1, f0, l1, l0, r1, r0] =>
    some ⟨be32 a b c d, cls.toNat, be16 f1 f0, be16 l1 l0, be16 r1 r0, none, none⟩
  | _ => none

/-- DENY ADD and DENY REMOVE: base id 4, k 1, kind 1. -/
def denyPayload : List Byte → Option (Nat × Nat × Byte)
  | [a, b, c, d, k, kind] => some (be32 a b c d, k.toNat, kind)
  | _ => none

/-- CONFIG READ: source 1, kind 1, index 1. -/
def readPayload : List Byte → Option (Byte × Byte × Byte)
  | [s, k, i] => some (s, k, i)
  | _ => none

/-- CONFIG WRITE: the fields (number 1, value 4), for the count `n` of the payload. -/
def fieldsPayload : Nat → List Byte → Option (List (Nat × Nat))
  | 0, [] => some []
  | n + 1, f :: a :: b :: c :: d :: rest => (fieldsPayload n rest).map fun fs => (f.toNat, be32 a b c d) :: fs
  | _, _ => none

/-- The operands of CONFIG WRITE: kind, index, remove flag, fields. -/
structure ConfigWriteArgs where
  kind : Nat
  index : Nat
  remove : Nat
  fields : List (Nat × Nat)
  deriving DecidableEq, Repr

/-- CONFIG WRITE: kind 1, index 1, remove flag 1, field count n 1 (0 to 16), then the fields; a count that does not match
the length has not the length of the type. -/
def writePayload : List Byte → Option ConfigWriteArgs
  | k :: i :: r :: n :: rest =>
    if n.toNat ≤ 16 then (fieldsPayload n.toNat rest).map fun fs => ⟨k.toNat, i.toNat, r.toNat, fs⟩ else none
  | _ => none

/-! ### Records of the partner links -/

/-- Two's complement value of one byte. -/
def signed8 (b : Byte) : Int := b.toInt

/-- Door report code: LOCKED 0, CLOSED 1, MOVING 2, OPEN 3, OBSTRUCTED 4. -/
def doorReportOfCode (b : Byte) : Option DoorReport :=
  match b.toNat with
  | 0 => some .locked
  | 1 => some .closed
  | 2 => some .moving
  | 3 => some .standingOpen
  | 4 => some .obstructed
  | _ => none

/-- Drive status code: READY 1, RUNNING 2, FAULT 3; every other status is invalid (11.2). -/
def driveReadingOfCode (b : Byte) : Option DriveReading :=
  match b.toNat with
  | 1 => some .ready
  | 2 => some .running
  | 3 => some .fault
  | _ => none

end Sys2Proof.Machine
end

