-- ==== Sys2Proof/Machine/Flags.lean ====
section
/-! DEFINITION. The flag bytes of 11.2: attendant flags, car fault flags, host flags, display flags. Any bit not named is
0, and a received byte with another bit set is invalid (R181). -/

namespace Sys2Proof.Machine

open Sys2Proof

/-- Bit `i` of a byte. -/
def flagBit (b : Byte) (i : Nat) : Bool := b.getLsbD i

/-- Attendant flags: bit 0 READY, bit 1 HOLD, bit 2 ALARM, bit 3 SERVICE. -/
def attendantOfByte (b : Byte) : Option Attendant :=
  if b.toNat < 16 then some ⟨flagBit b 0, flagBit b 1, flagBit b 2, flagBit b 3⟩ else none

/-- Car fault flags: bit 0 door drive fault, bit 1 counter fault. -/
def carFaultsOfByte (b : Byte) : Option CarFaults :=
  if b.toNat < 4 then some ⟨flagBit b 0, flagBit b 1⟩ else none

/-- CAR FLAGS: bit 0 host flag 1, bit 1 host flag 2. -/
def hostFlagsOfByte (b : Byte) : Option (Bool × Bool) :=
  if b.toNat < 4 then some (flagBit b 0, flagBit b 1) else none

/-- The code of the attendant flags. -/
def attendantCode (f : Attendant) : Nat :=
  flagCode f.ready + 2 * flagCode f.hold + 4 * flagCode f.alarm + 8 * flagCode f.service

/-- The code of the car fault flags. -/
def carFaultsCode (f : CarFaults) : Nat := flagCode f.doorDrive + 2 * flagCode f.counter

/-- Display flags: bit 0 DEPARTING, bit 1 OUT_OF_SERVICE, bit 2 STOPPING, bit 3 host flag 1, bit 4 host flag 2. -/
def displayCode (c : CarCommand) : Nat :=
  flagCode c.departing + 2 * flagCode c.outOfService + 4 * flagCode c.stopping + 8 * flagCode c.flag1 +
    16 * flagCode c.flag2

/-- R110: a side that reports anything but LOCKED. -/
def notLocked (r : DoorReport) : Bool := r != .locked

/-- R110: both sides report LOCKED. -/
def DoorCtl.allLocked (d : DoorCtl) : Bool := d.left == .locked && d.right == .locked

end Sys2Proof.Machine
end

