-- ==== Sys2Proof/Machine/Ops.lean ====
section
/-! DEFINITION. The shared operations: the reply and report queues and the transmitter (R174, R176, R177), the partner
links' senders (R181), the car command record (R111), free draws, and the CRC-16 (R173). -/

namespace Sys2Proof.Machine

open Sys2Proof

/-! ### CRC-16 -/

/-- One bit of the CRC-16 of R173, most significant bit first. -/
def crc16Bit (c : BitVec 16) : BitVec 16 := if c.getLsbD 15 then (c <<< 1) ^^^ 0x1021#16 else c <<< 1

/-- One byte of the CRC-16. -/
def crc16Byte (c : BitVec 16) (b : Byte) : BitVec 16 := Nat.repeat crc16Bit 8 (c ^^^ (b.setWidth 16 <<< 8))

/-- R173: polynomial 0x1021, initial value 0xFFFF, no reflection, no final complement. -/
def crc16 (bs : List Byte) : BitVec 16 := bs.foldl crc16Byte 0xFFFF#16

/-- The two CRC bytes, high byte first. -/
def crcBytes (bs : List Byte) : List Byte := [(crc16 bs >>> 8).setWidth 8, (crc16 bs).setWidth 8]

/-! ### Free draws -/

/-- A free choice among `n` orders (DESIGN CHOICE, assumption log 2); where there is nothing to choose, nothing is drawn. -/
def State.pickOf (s : State) (n : Nat) : Nat := if n ≤ 1 then 0 else Config.pick s.draws % n

/-- The state after such a choice. -/
def State.afterPick (s : State) (n : Nat) : State := if n ≤ 1 then s else { s with draws := s.draws + 1 }

/-! ### Passing figures -/

/-- R43: the passing figures of the latest car status record are past. Every command does so that is not a STATUS request and
takes an event, but for a byte that completes no frame and no record (DESIGN CHOICE, assumption log 44). -/
def State.figuresSettled (s : State) : State := s.modLoad fun e => { e with passing := none }

/-! ### Transmitter, replies, reports -/

/-- R176: a free transmitter takes the oldest reply, or else the oldest report. -/
def Port.start (p : Port) : Port :=
  match p.sending with
  | some _ => p
  | none =>
    match p.replies with
    | r :: rs => { p with sending := some (.reply r), replies := rs }
    | [] =>
      match p.reports with
      | r :: rs => { p with sending := some (.report r), reports := rs }
      | [] => p

/-- R174: a reply joins the reply queue. -/
def Port.queueReply (p : Port) (r : Reply) : Port := Port.start { p with replies := p.replies ++ [r] }

/-- R177: a report joins the report queue as the newest, or is dropped where the queue is full. -/
def Port.queueReport (p : Port) (r : Report) : Port :=
  if Config.reportQueueSize ≤ p.reports.length then { p with dropped := true }
  else Port.start { p with reports := p.reports ++ [r] }

/-- A report handed to the port. -/
def State.report (s : State) (r : Report) : State := s.modPort fun p => p.queueReport r

/-- A reply handed to the port. -/
def State.reply (s : State) (r : Reply) : State := s.modPort fun p => p.queueReply r

/-- R173: a discarded frame adds 1 to the link error count; the assembler returns to HUNT. -/
def Port.discard (p : Port) : Port := { p with rx := Assembler.idle, linkErrors := satAdd 65535 p.linkErrors 1 }

/-- The assembler back in HUNT after a complete frame. -/
def Port.hunt (p : Port) : Port := { p with rx := Assembler.idle }

/-- What an owner decides on a request: the body of its reply (none where the reply is held back, R11) and its effect. -/
structure Ruling where
  body : Option ReplyBody
  effect : State → State

/-- A refusal: a result and no effect (R175). -/
def Ruling.refuse (r : Result) : Ruling := ⟨some (.plain r), id⟩

/-- An acceptance with the plain result OK. -/
def Ruling.accept (f : State → State) : Ruling := ⟨some (.plain .ok), f⟩

/-- An acceptance of a request whose rule has an "OK, no change" row (11.1). -/
def Ruling.done (f : State → State) : Ruling := ⟨some (.done false), f⟩

/-- "OK, no change". -/
def Ruling.noChange : Ruling := ⟨some (.done true), id⟩

/-- The request rows of a rule: the first row that holds gives the result. -/
def firstRow (rows : List (Bool × Ruling)) (otherwise : Ruling) : Ruling :=
  ((rows.find? fun r => r.1).map (·.2)).getD otherwise

/-- The reply type of a request type (R174). -/
def replyType (typ : Byte) : Byte := typ + 0x80#8

/-- The state after the ruling of an owner: the reply joins the queue as it is decided, and the effect comes about. -/
def State.rule (s : State) (seq typ : Byte) (r : Ruling) : State :=
  r.effect (match r.body with
    | none => s.figuresSettled
    | some b => s.figuresSettled.reply ⟨replyType typ, seq, b⟩)

/-- R173, R179: a frame that ends without a reply, with what becomes of the port. -/
def State.frameOver (s : State) (f : Port → Port) : State := s.figuresSettled.modPort f

/-- R174, R176, R179: a frame whose CRC matches is taken as one event. After an accepted RESTART it is discarded
uncounted; on a full reply queue it is an overrun; a wrong payload length gives LENGTH; LOADING gives BUSY; otherwise the
owner decides. -/
def request {α : Type} (seq typ : Byte) (args : Option α) (owner : α → State → Ruling) (s : State) : State :=
  let t := s.modPort Port.hunt
  if s.port.restarting then s.frameOver Port.hunt
  else if Config.replyQueueSize ≤ s.port.replies.length then s.frameOver Port.discard
  else
    match args with
    | none => t.rule seq typ (.refuse .length)
    | some a => if s.cfg.commit = .loading then t.rule seq typ (.refuse .busy) else t.rule seq typ (owner a t)

/-! ### Partner links -/

/-- The link of a car. -/
def carWire : Car → PartnerLink
  | .a => .carA
  | .b => .carB

/-- The port of a partner link. -/
def Links.get (l : Links) : PartnerLink → LinkPort
  | .gateBus => l.gateBus
  | .carA => l.carA
  | .carB => l.carB
  | .driveLine => l.driveLine

/-- The links with one port replaced. -/
def Links.set (l : Links) (w : PartnerLink) (p : LinkPort) : Links :=
  match w with
  | .gateBus => { l with gateBus := p }
  | .carA => { l with carA := p }
  | .carB => { l with carB := p }
  | .driveLine => { l with driveLine := p }

/-- One partner link changed. -/
def State.modWire (s : State) (w : PartnerLink) (f : LinkPort → LinkPort) : State :=
  s.modWires fun l => l.set w (f (l.get w))

/-- The record kind code of 11.2. -/
def LinkRecord.kindCode : LinkRecord → Nat
  | .poll .. => 0x01
  | .verdict .. => 0x02
  | .carCommand .. => 0x20
  | .driveReference .. => 0x30

/-- R181: a record is sent whole; while another is being sent it waits, and only the newest waiting record of each kind
is kept. -/
def LinkPort.push (l : LinkPort) (r : LinkRecord) : LinkPort :=
  match l.sending with
  | none => { l with sending := some r }
  | some _ => { l with waiting := (l.waiting.filter fun w => w.kindCode != r.kindCode) ++ [r] }

/-- R181: the record in transmission has been sent; the next waiting one goes out. -/
def LinkPort.sent (l : LinkPort) : LinkPort :=
  match l.waiting with
  | [] => { l with sending := none }
  | r :: rs => { l with sending := some r, waiting := rs }

/-- A record formed for a partner link. -/
def State.sendRecord (s : State) (w : PartnerLink) (r : LinkRecord) : State := s.modWire w fun l => l.push r

/-! ### Departure numbers and the configuration -/

/-- The departure number of the trip record, or 0 where none exists (R131, R151). -/
def State.recordDeparture (s : State) : Nat := (s.trip.record.map (·.departure)).getD 0

/-- R102: the departure number of the trip record, or the departure count where none exists. The INTERVENTION, WARNING and FAULT
reports carry the same number (R108; DESIGN CHOICE, assumption log 48). -/
def State.departureNumber (s : State) : Nat := (s.trip.record.map (·.departure)).getD s.trip.departures

/-- The part holds no active configuration. -/
def State.unconfigured (s : State) : Bool := s.cfg.active.isNone

/-- The stop at which a car stands as far as its platform is concerned: PARKED at stop k, or PREPARING with origin k
(R120). -/
def State.carStop (s : State) : Option Nat :=
  match s.trip.state with
  | .parked k => some k
  | .preparing => s.trip.record.bind (·.origin)
  | _ => none

/-- The platform that the car's stop names for the car (R134). -/
def State.carPlatform (s : State) (c : Car) : Option Nat :=
  s.cfg.active.bind fun d => s.carStop.bind fun k => d.stopPlatform? k c

/-! ### Car command records (R111) -/

/-- R111: the trip record holds a controlled stop. -/
def State.stopping (s : State) : Bool := (s.trip.record.bind (·.controlled)).isSome

/-- R111: the trip state is PREPARING or LIFTING. -/
def State.departing (s : State) : Bool := s.trip.state == .preparing || s.trip.state == .lifting

/-- R111: the fields of a car's command record as they stand. -/
def State.carCommand (s : State) (c : Car) : CarCommand where
  authority := (s.door.get c).authority
  command := (s.link.get c).slot
  tag := (s.link.get c).tag
  departing := s.departing
  outOfService := s.unconfigured || s.brake.latch
  stopping := s.stopping
  flag1 := (s.link.get c).flag1
  flag2 := (s.link.get c).flag2

/-- R111: a car command record is sent (on the timer, or by a rule that sends one at once). -/
def State.sendCommand (s : State) (c : Car) : State :=
  (s.modLink c fun l => { l with shown := s.carCommand c }).sendRecord (carWire c) (.carCommand (s.carCommand c))

/-- R111: one is also sent at once when any field of the record changes. -/
def State.syncCommand (s : State) (c : Car) : State :=
  if s.carCommand c = (s.link.get c).shown then s else s.sendCommand c

/-- The test for both cars. -/
def State.syncCommands (s : State) : State := (s.syncCommand .a).syncCommand .b

/-! ### DOOR reports (R131) -/

/-- A DOOR report with what every one carries. -/
def State.doorReport (s : State) (c : Car) (e : DoorEvent) : State :=
  s.report (.door c e (s.door.get c).state (s.door.get c).authority (s.door.get c).left (s.door.get c).right
    (s.door.get c).retry (s.link.get c).attendant (s.link.get c).faults s.recordDeparture)

end Sys2Proof.Machine
end

