-- ==== Sys2Proof/Machine/Load.lean ====
section
/-! DEFINITION. The load estimator (chapter 3): payloads, imbalance, braking capability, the recomputation of the live
figures and the trip snapshot. -/

namespace Sys2Proof.Machine

open Sys2Proof

/-- R39: the greatest plausible weigh value. -/
def LineDesc.weighBound (d : LineDesc) : Nat := 2 * d.car.capacity * d.car.personMass

/-- R39: the weigh input of a car. The car link holds a value only while it is fresh (`CarLink.weigh`). -/
def weighInput (d : LineDesc) (l : CarLink) : Option Nat :=
  if l.live then l.weigh.filter (fun w => decide (w ≤ d.weighBound)) else none

/-- R38: pending and inflight of a car: those of its window while OPEN or CLOSING, else 0. -/
def windowCounts (w : Window) : Nat × Nat := if w.state = .shut then (0, 0) else (w.pending, w.inflight)

/-- R46: whether a payload came from the weigh; the tie is a free value (DESIGN CHOICE, assumption log 4). -/
def markedFromWeigh (count : Nat) : Option Nat → Bool
  | none => false
  | some w => decide (count < w) || (decide (w = count) && Config.weighTie w)

/-- R40: the figures of one car. -/
def carLoad (d : LineDesc) (l : CarLink) (w : Window) : CarLoad :=
  let n := windowCounts w
  let weigh := weighInput d l
  let count := (l.onboard + n.1 + n.2) * d.car.personMass
  let payload := max count (weigh.getD 0)
  { onboard := l.onboard, pending := n.1, inflight := n.2, weigh := weigh, payloadCount := count,
    fromWeigh := markedFromWeigh count weigh, payload := payload, gross := d.car.emptyMass + payload }

/-- R41: the runaway imbalance, from the payloads of the downhill and the uphill car. -/
def imbalance (downhill uphill : Nat) : Nat := min 30000 (downhill - uphill)

/-- R42: the braking capability of a zone under an imbalance. -/
def brakingCapability (d : LineDesc) (u sensitivity : Nat) : Nat :=
  max d.line.aFloor (d.line.aNom - u * sensitivity / 1000)

/-- R41, R42: the figures of one direction. -/
def dirLoad (d : LineDesc) (downhill uphill : Nat) : DirLoad :=
  let u := imbalance downhill uphill
  { u := u, within := decide (u ≤ d.car.imbalanceLimit),
    aEff := d.zones.map fun z => brakingCapability d u z.sensitivity }

/-- R40 to R42: the live figures of both cars, both directions and all zones. UP runs with car B downhill. -/
def liveFigures (d : LineDesc) (links : Pair CarLink) (windows : Pair Window) : LiveLoad :=
  let a := carLoad d links.a windows.a
  let b := carLoad d links.b windows.b
  { cars := ⟨a, b⟩, up := dirLoad d b.payload a.payload, down := dirLoad d a.payload b.payload }

/-- R43: the recomputation of the live figures; no figures exist without an active configuration (R37). -/
def State.recompute (s : State) : State :=
  s.modLoad fun e => { e with live := s.cfg.active.map fun d => liveFigures d s.link s.board.windows }

/-- R49: the figures that the estimator shows. -/
def Estimator.figures (e : Estimator) : LoadFigures := ⟨e.live, e.implausible, e.snapshot⟩

/-- R39: a received weigh value above the bound adds 1 to the implausible-weigh count of the car. -/
def State.countWeigh (s : State) (c : Car) (w : Option Nat) : State :=
  match s.cfg.active, w with
  | some d, some v =>
    if d.weighBound < v then
      s.modLoad fun e => { e with implausible := e.implausible.set c (satAdd 255 (e.implausible.get c) 1) }
    else s
  | _, _ => s

/-- The live figures of a direction. -/
def LiveLoad.dir (l : LiveLoad) : Dir → DirLoad
  | .up => l.up
  | .down => l.down

/-- R45: the live within-limit flag of a direction; clear where no figures exist. -/
def State.withinLimit (s : State) (dir : Dir) : Bool := (s.load.live.map fun l => (l.dir dir).within).getD false

/-- R46: the trip snapshot, from the live figures in force. -/
def State.takeSnapshot (s : State) (departure : Nat) (dir : Dir) : State :=
  s.modLoad fun e => { e with snapshot := e.live.map fun l =>
    { departure := departure, dir := dir, payload := ⟨l.cars.a.payload, l.cars.b.payload⟩,
      fromWeigh := ⟨l.cars.a.fromWeigh, l.cars.b.fromWeigh⟩, u := (l.dir dir).u, aEff := (l.dir dir).aEff } }

/-- R47: the snapshot is removed. -/
def State.dropSnapshot (s : State) : State := s.modLoad fun e => { e with snapshot := none }

/-- R48: the a_eff of a zone: the snapshot's while one exists, else the lower of the live UP and DOWN values. -/
def Estimator.aEffAt (e : Estimator) (z : Nat) : Nat :=
  match e.snapshot with
  | some sn => sn.aEff.getD z 0
  | none =>
    match e.live with
    | some l => min (l.up.aEff.getD z 0) (l.down.aEff.getD z 0)
    | none => 0

/-- R53: the smallest a_eff over the zones from `lo` to `hi`, both included. -/
def Estimator.lowestAEff (e : Estimator) (lo hi : Nat) : Nat :=
  ((List.range (hi + 1 - lo)).map fun i => e.aEffAt (lo + i)).foldl min (e.aEffAt lo)

/-- R75: the lowest snapshot a_eff over all zones, for a REFERENCE trip. -/
def Estimator.lowestSnapshot (e : Estimator) : Nat :=
  match e.snapshot with
  | some sn => sn.aEff.foldl min (sn.aEff.headD 0)
  | none => 0

end Sys2Proof.Machine
end

