-- ==== Sys2Proof/Machine/PositionMonitor.lean ====
section
/-! DEFINITION. The position monitor (chapter 2): channels, the sample, rope marks, agreement, missed marks, divergence,
standstill, stops, hold and rollback. -/

namespace Sys2Proof.Machine

open Sys2Proof

/-! ### Channels (R18, R20) -/

/-- R18: the count saturates at plus and minus 2,147,483,647. -/
def Channel.pulse (c : Channel) (delta : Int) : Channel :=
  { c with count := clampInt (c.count + delta) (-2147483647) 2147483647 }

/-- R18: the scaled travel, count × 1,000 / counts per metre, rounded toward zero. -/
def Channel.travel (c : Channel) (perMetre : Nat) : Int := (c.count * 1000).tdiv perMetre

/-- R18: the channel position. -/
def Channel.position (c : Channel) (perMetre : Nat) : Int := c.travel perMetre + c.offset

/-- R20: the signed channel speed from the oldest history entry and the new position. -/
def channelSpeed (oldest new : Int) : Int :=
  let mag := min 65535 ((new - oldest).natAbs * 25 / 2)
  if new - oldest < 0 then -(mag : Int) else mag

/-- R19: the scaled travel since the previous sample, worked out from the counts alone: an offset change does not appear in
it, nor does a change of scale, since both counts are read under the scale in force (DEDUCED, assumption log 22). -/
def Channel.sinceSample (c : Channel) (perMetre : Nat) : Int :=
  c.travel perMetre - { c with count := c.lastCount }.travel perMetre

/-- R20: the new position enters the history and the oldest entry leaves it. -/
def Channel.enter (c : Channel) (x : Int) : Channel :=
  { c with history := c.history.drop 1 ++ [x], lastCount := c.count }

/-- R20: an offset change shifts every entry of the history by the same amount. -/
def Channel.shift (c : Channel) (by_ : Int) : Channel :=
  { c with offset := c.offset + by_, history := c.history.map (· + by_) }

/-- R14, R18: a channel after an activation that makes the position UNREFERENCED: the counts are kept, the offset is 0, the
history and the base hold the position under the new scale. -/
def Channel.rescale (c : Channel) (perMetre : Nat) : Channel :=
  let x := c.travel perMetre
  { c with offset := 0, base := x, history := List.replicate 8 x }

/-! ### Position state -/

/-- R22: whenever the state changes, the agreement excess count becomes 0 and the resolving flag is cleared. -/
def Monitor.become (m : Monitor) (new : PosState) : Monitor :=
  if m.pos = new then m else { m with pos := new, excess := 0, resolving := false }

/-- R26, R27: the agreement test of CONFIRMED and the resolution of DISPUTED at a sample. -/
def Monitor.agreement (m : Monitor) (agree gap : Nat) : Monitor :=
  match m.pos with
  | .unreferenced => m
  | .confirmed =>
    if gap ≤ agree then { m with excess := 0 }
    else if m.excess + 1 < 3 then { m with excess := m.excess + 1 }
    else m.become .disputed
  | .disputed =>
    if !m.resolving then m
    else if gap ≤ agree then m.become .confirmed
    else { m with resolving := false }

/-- R28: the mark whose band holds a position. -/
def LineDesc.bandAt (d : LineDesc) (x : Int) : Option Nat :=
  (d.marks.find? fun m => decide (distance x m.2 ≤ d.line.idWindow)).map (·.1)

/-- R28: what leaving the band of the armed mark gives: the mark still armed, or the mark missed. -/
def leaveBand (d : LineDesc) (x : Int) : Option (Nat × EntrySide) → Option (Nat × EntrySide) × Option Nat
  | none => (none, none)
  | some (k, side) =>
    match d.mark? k with
    | none => (none, none)
    | some p =>
      if distance x p ≤ d.line.idWindow then (some (k, side), none)
      else
        match side with
        | .below => (none, if (p : Int) < x then some k else none)
        | .above => (none, if x < (p : Int) then some k else none)

/-- R28: arming at a sample: channel P lies in the band of a mark, in which the previous xP did not lie under the W_id in
force. A mark whose band held channel P when the test began, or began again by an offset change, is not armed. -/
def enterBand (d : LineDesc) (m : Monitor) (previous : Int) (band : Option Nat)
    (kept : Option (Nat × EntrySide)) : Option (Nat × EntrySide) :=
  match band with
  | none => kept
  | some k =>
    let mark := (d.mark? k).getD 0
    if m.bandTestDue || m.movedInto == some k || decide (distance previous mark ≤ d.line.idWindow) then kept
    else some (k, if previous < (mark : Int) then .below else .above)

/-- R28: the missed-mark test of a sample in CONFIRMED or DISPUTED; answers the mark missed, if one was. -/
def Monitor.bandTest (d : LineDesc) (m : Monitor) (x : Int) : Monitor × Option Nat :=
  match m.pos with
  | .unreferenced => ({ m with armed := none, movedInto := none, bandTestDue := true }, none)
  | _ =>
    let left := leaveBand d x m.armed
    let band := d.bandAt x
    let armed := enterBand d m (m.p.history.getLastD 0) band left.1
    let m1 := { m with armed := armed, movedInto := none, bandTestDue := false }
    match left.2 with
    | none => (m1, none)
    | some k =>
      let m2 := { m1 with missed := satAdd 255 m1.missed 1, missedRun := satAdd 255 m1.missedRun 1 }
      (if m2.pos = .confirmed && m2.missedRun == 2 then m2.become .disputed else m2, some k)

/-! ### The measures of a sample -/

/-- R29: the divergence measure. -/
def Monitor.measure (m : Monitor) (xP xQ : Int) : Nat :=
  match m.pos with
  | .unreferenced => ((xP - m.p.base) - (xQ - m.q.base)).natAbs
  | _ => (xP - xQ).natAbs

/-- R21: the measured line speed. -/
def lineSpeed (pos : PosState) (vP vQ : Int) : Nat :=
  match pos with
  | .confirmed => vP.natAbs
  | _ => max vP.natAbs vQ.natAbs

/-- R21: motion. -/
def motionOf (vP : Int) : Motion := if 0 < vP then .up else if vP < 0 then .down else .none

/-- R31: the stop whose window holds a position. -/
def LineDesc.stopAt (d : LineDesc) (near : Int → Bool) : Option Nat :=
  (d.stops.zipIdx.find? fun s => near s.1.x).map (·.2)

/-- R31: the at-stop test. -/
def LineDesc.atStop (d : LineDesc) (pos : PosState) (xP xQ : Int) : Option Nat :=
  match pos with
  | .unreferenced => none
  | .confirmed => d.stopAt fun x => decide (distance xP x ≤ d.line.stopWindow)
  | .disputed => d.stopAt fun x => decide (distance xP x ≤ d.line.stopWindow) && decide (distance xQ x ≤ d.line.stopWindow)

/-- R32: the hold position after a sample, and whether DRIFT_UNDER_BRAKE is raised. The sample at which SB is commanded lifted
removes the hold without the drift test, of which R32 gives no order (DESIGN CHOICE, assumption log 42). -/
def holdStep (limit : Nat) (sbApplied standstill : Bool) (xP xQ : Int) :
    Option (Int × Int) → Option (Int × Int) × Bool
  | none => (if sbApplied && standstill then some (xP, xQ) else none, false)
  | some h =>
    if !sbApplied then (none, false)
    else if limit < distance xP h.1 || limit < distance xQ h.2 then (some (xP, xQ), true)
    else (some h, false)

/-- R33: the travel of a sample counted positive in the trip direction. -/
def forward (dir : Dir) (travel : Int) : Int :=
  match dir with
  | .up => travel
  | .down => -travel

/-- R33: the backward amount of a sample: the larger backward travel of the two channels. -/
def backward (dir : Dir) (tP tQ : Int) : Nat := max (-(forward dir tP)).toNat (-(forward dir tQ)).toNat

/-- R33: the rollback accumulation and the forward run count after a sample, and whether ROLLBACK is raised. `running`
is the trip direction while the trip state is RUNNING or CREEPING. -/
def rollbackStep (limit : Nat) (running : Option Dir) (tP tQ : Int) (acc run : Nat) : Nat × Nat × Bool :=
  match running with
  | none => (0, 0, false)
  | some dir =>
    let back := backward dir tP tQ
    if 0 < back then
      if limit < acc + back then (0, 0, true) else (acc + back, 0, false)
    else if 0 < forward dir tP then
      if run + 1 < 8 then (acc, run + 1, false) else (0, 0, false)
    else (acc, run, false)

/-! ### The sample (R19) -/

/-- What a sample gives beside the new monitor: whether the position state changed, the mark missed, the causes. -/
structure SampleOut where
  monitor : Monitor
  changed : Bool
  missed : Option Nat
  causes : List Cause

/-- R19: one sample, for the commanded SB and the direction of a trip in RUNNING or CREEPING. -/
def Monitor.sample (d : LineDesc) (sbApplied : Bool) (running : Option Dir) (m : Monitor) : SampleOut :=
  let tP := m.p.travel d.line.countsP
  let tQ := m.q.travel d.line.countsQ
  let xP := tP + m.p.offset
  let xQ := tQ + m.q.offset
  let vP := channelSpeed (m.p.history.headD 0) xP
  let vQ := channelSpeed (m.q.history.headD 0) xQ
  let travelP := m.p.sinceSample d.line.countsP
  let travelQ := m.q.sinceSample d.line.countsQ
  let m1 := m.agreement d.line.agreeWindow (distance xP xQ)
  let banded := m1.bandTest d xP
  let m2 := banded.1
  let vm := lineSpeed m2.pos vP vQ
  let far := decide (4 * d.line.agreeWindow < m2.measure xP xQ)
  let standstill := decide (vP = 0) && decide (vQ = 0)
  let still := if standstill then satAdd 50 m2.still 1 else 0
  let held := holdStep d.line.holdDriftLimit sbApplied standstill xP xQ m2.hold
  let rolled := rollbackStep d.line.rollbackLimit running travelP travelQ m2.rollback m2.forwardRun
  let view : View :=
    { xP := xP, xQ := xQ, vP := vP, vQ := vQ, vm := vm, motion := motionOf vP, travelP := travelP, travelQ := travelQ,
      pos := m2.pos, standstill := standstill, settled := decide (still = 50), atStop := d.atStop m2.pos xP xQ,
      hold := held.1, corrected := m2.corrected, mismatch := m2.mismatch, unexpected := m2.unexpected,
      missed := m2.missed }
  { monitor := { m2 with
      p := m2.p.enter xP, q := m2.q.enter xQ, vmHistory := m2.vmHistory.drop 1 ++ [vm], diverged := far,
      still := still, hold := held.1, rollback := rolled.1, forwardRun := rolled.2.1, view := view, published := true,
      oldWindows := none },
    changed := decide (m2.pos ≠ m.pos),
    missed := banded.2,
    causes := (if far && !m2.diverged then [Cause.divergence] else []) ++ (if held.2 then [Cause.driftUnderBrake] else [])
      ++ (if rolled.2.2 then [Cause.rollback] else []) }

/-! ### Rope marks (R23 to R26) -/

/-- R23: the outcome of one channel at a mark. -/
inductive MarkOutcome where
  | correct | mismatch | unexpected
  deriving DecidableEq, Repr

/-- R14, R23: W_corr and W_id by which a mark event is tested: those of the active LINE record, but after an activation until
the next sample still those of the configuration before it. -/
def Monitor.windows (d : LineDesc) (m : Monitor) : Nat × Nat := m.oldWindows.getD (d.line.corrWindow, d.line.idWindow)

/-- R23: a channel's outcome from its deviation, by W_corr and W_id. -/
def markOutcome (windows : Nat × Nat) (deviation : Nat) : MarkOutcome :=
  if deviation ≤ windows.1 then .correct
  else if deviation ≤ windows.2 then .mismatch
  else .unexpected

/-- R20, R23, R32: channel P set to read a mark position; the history and the hold position shift with the offset, and the
missed-mark test begins again in the band in which P now lies (R28). An event that finds P at the mark already changes the
offset by 0; R28 does not say whether that is an offset change that moves P into the band, and the model takes it as one, so
that the mark of that band is not armed at the next sample (DESIGN CHOICE, assumption log 60). -/
def Monitor.setP (d : LineDesc) (m : Monitor) (mark : Int) : Monitor :=
  let by_ := mark - m.p.position d.line.countsP
  { m with p := m.p.shift by_, hold := m.hold.map fun h => (h.1 + by_, h.2), movedInto := d.bandAt mark }

/-- The same for channel Q. -/
def Monitor.setQ (d : LineDesc) (m : Monitor) (mark : Int) : Monitor :=
  let by_ := mark - m.q.position d.line.countsQ
  { m with q := m.q.shift by_, hold := m.hold.map fun h => (h.1, h.2 + by_) }

/-- R23: each event with a known number sets the consecutive missed count to 0 and disarms that mark. -/
def Monitor.knownMark (m : Monitor) (n : Nat) : Monitor :=
  { m with missedRun := 0, armed := m.armed.filter fun a => a.1 != n }

/-- What a mark event gives beside the new monitor: whether the position state changed, its outcome, and whether it set
the position (R24). -/
structure MarkOut where
  monitor : Monitor
  changed : Bool
  outcome : MarkOutcome
  referenced : Bool

/-- R24: a mark that fixes the position without any test of the channels; the event counts as CORRECTED. -/
def Monitor.reference (d : LineDesc) (m : Monitor) (n pos : Nat) : MarkOut :=
  let m1 := ((m.knownMark n).setP d pos).setQ d pos
  let m2 := { m1.become .confirmed with corrected := satAdd 255 m1.corrected 1 }
  { monitor := m2, changed := decide (m2.pos ≠ m.pos), outcome := .correct, referenced := true }

/-- R23: the event's outcome from those of the channels. -/
def eventOutcome (p q : MarkOutcome) : MarkOutcome :=
  if p = .unexpected || q = .unexpected then .unexpected
  else if p = .mismatch || q = .mismatch then .mismatch
  else .correct

/-- R23: exactly one mark counter advances. -/
def Monitor.countMark (m : Monitor) : MarkOutcome → Monitor
  | .correct => { m with corrected := satAdd 255 m.corrected 1 }
  | .mismatch => { m with mismatch := satAdd 255 m.mismatch 1 }
  | .unexpected => { m with unexpected := satAdd 255 m.unexpected 1 }

/-- R25, R26: what an event's outcome does to the position state outside a REFERENCE trip. -/
def Monitor.judge (m : Monitor) (o : MarkOutcome) : Monitor :=
  match m.pos with
  | .unreferenced => m
  | .confirmed => if o = .correct then m else m.become .disputed
  | .disputed => { m with resolving := decide (o = .correct) }

/-- R23: a known mark outside R24: each channel is tested on its own. -/
def Monitor.tested (d : LineDesc) (m : Monitor) (n pos : Nat) : MarkOut :=
  let oP := markOutcome (m.windows d) (distance (m.p.position d.line.countsP) pos)
  let oQ := markOutcome (m.windows d) (distance (m.q.position d.line.countsQ) pos)
  let m1 := m.knownMark n
  let m2 := if oP = .correct then m1.setP d pos else m1
  let m3 := if oQ = .correct then m2.setQ d pos else m2
  let o := eventOutcome oP oQ
  let m4 := (m3.countMark o).judge o
  { monitor := m4, changed := decide (m4.pos ≠ m.pos), outcome := o, referenced := false }

/-- R23 to R25: an unknown number is UNEXPECTED; a CONFIRMED position becomes DISPUTED, and outside a REFERENCE trip the
resolving flag of DISPUTED is cleared. -/
def Monitor.unknownMark (m : Monitor) (refTrip : Bool) : MarkOut :=
  let m1 := m.countMark .unexpected
  let m2 := if refTrip && m1.pos != .confirmed then m1 else m1.judge .unexpected
  { monitor := m2, changed := decide (m2.pos ≠ m.pos), outcome := .unexpected, referenced := false }

/-- R23, R24: one mark event. -/
def Monitor.mark (d : LineDesc) (m : Monitor) (n : Nat) (refTrip : Bool) : MarkOut :=
  match d.mark? n with
  | none => m.unknownMark refTrip
  | some pos => if refTrip || m.pos == .unreferenced then m.reference d n pos else m.tested d n pos

/-! ### Activation (R14) -/

/-- R14: the windows of a new LINE record apply from the next sample; until then mark events are tested by those in force so
far. A part that had no configuration has no others than the new ones (DEDUCED, assumption log 56). -/
def Monitor.keepWindows (old : Option LineDesc) (m : Monitor) : Monitor := { m with oldWindows := old.map fun o => m.windows o }

/-- R14, R18, R28, R29, R32: an activation that changes length, counts_p, counts_q or a MARK record. -/
def Monitor.unreference (d : LineDesc) (m : Monitor) : Monitor :=
  { m.become .unreferenced with
    p := m.p.rescale d.line.countsP, q := m.q.rescale d.line.countsQ, armed := none, movedInto := none,
    bandTestDue := true, diverged := false, hold := none }

/-! ### Reading the view -/

/-- R34: the leading position of a direction. -/
def View.leading (v : View) (dir : Dir) : Option Int :=
  match v.pos with
  | .unreferenced => none
  | .confirmed => some v.xP
  | .disputed => some (match dir with
    | .up => max v.xP v.xQ
    | .down => min v.xP v.xQ)

/-- R35: a POSITION report. -/
def State.positionReport (s : State) (changed mismatch unexpected missed : Bool) (mark : Option Nat) (xP xQ : Int) :
    State :=
  s.report (.position changed mismatch unexpected missed mark s.pos.pos xP xQ)

/-- Causes on their way to the brake supervisor. -/
def State.raiseAll (s : State) (cs : List Cause) : State := cs.foldl (fun t c => t.send (.cause c)) s

/-- A cause on its way to the brake supervisor. -/
def State.raise (s : State) (c : Cause) : State := s.send (.cause c)

end Sys2Proof.Machine
end

