-- ==== Sys2Proof/Machine/EnvelopeCalc.lean ====
section
/-! DEFINITION. The envelope calculator (chapter 4): building the restriction list, capability per restriction, distances
and removal, the braking curve, zone limit and class cap, permitted speed, thresholds and level. -/

namespace Sys2Proof.Machine

open Sys2Proof

/-! ### Integer square root -/

/-- One bit of the floor square root: the candidate is kept where its square does not exceed `q`. -/
def sqrtBits (q : Nat) : Nat → Nat → Nat
  | 0, r => r
  | b + 1, r => if (r + 2 ^ b) * (r + 2 ^ b) ≤ q then sqrtBits q b (r + 2 ^ b) else sqrtBits q b r

/-- The integer floor square root (00_scope.md 3.3) of a value below 2 ^ 28. -/
def floorSqrt (q : Nat) : Nat := sqrtBits q 14 0

/-- R55, R74: 15,000 where q is 225,000,000 or more, else the integer floor square root of q. -/
def curveSpeed (target accel dist : Nat) : Nat :=
  let q := target * target + 2 * accel * dist
  if 225000000 ≤ q then 15000 else floorSqrt q

/-! ### Building the list (R52, R53) -/

/-- R52: the boundary of zone `z` (from 1 upward) gives an entry (position, target) in the direction. -/
def zoneBoundary (d : LineDesc) (dir : Dir) (p0 : Int) (dest z : Nat) : Option (Nat × Nat) :=
  match d.zones[z]?, d.zones[z - 1]? with
  | some here, some below =>
    match dir with
    | .up =>
      if p0 < (here.start : Int) && decide (here.start ≤ dest) && decide (here.speedLimit < below.speedLimit) then
        some (here.start, here.speedLimit)
      else none
    | .down =>
      if (here.start : Int) ≤ p0 && decide (dest ≤ here.start) && decide (below.speedLimit < here.speedLimit) then
        some (here.start, below.speedLimit)
      else none
  | _, _ => none

/-- R52: the zone entries in the direction of travel. -/
def zoneEntries (d : LineDesc) (dir : Dir) (p0 : Int) (dest : Nat) : List (Nat × Nat) :=
  let up := ((List.range d.zones.length).drop 1).filterMap (zoneBoundary d dir p0 dest)
  match dir with
  | .up => up
  | .down => up.reverse

/-- R53: a_r of a restriction position, from the current zone. -/
def Estimator.capability (e : Estimator) (d : LineDesc) (zone position : Nat) : Nat :=
  let z := d.zoneAt position
  e.lowestAEff (min zone z) (max zone z)

/-- R52: the list of a trip with a destination. A zone entry at the destination merges into the DESTINATION entry. Distance
and v_r, which R50 gives as worked out at a view, are 0 until the first view after the build (DESIGN CHOICE, assumption
log 41). -/
def buildList (d : LineDesc) (e : Estimator) (dir : Dir) (p0 : Int) (dest : Nat) : List Restriction :=
  let zone := d.zoneAt p0
  let entries := zoneEntries d dir p0 dest
  let merged := (entries.filter fun z => z.1 == dest).map (·.2)
  let target := merged.foldl min d.line.releaseSpeed
  ((entries.filter fun z => z.1 != dest).map fun z =>
    { kind := .zone, position := z.1, target := z.2, ar := e.capability d zone z.1, distance := 0, vr := 0 }) ++
  [{ kind := .destination, position := dest, target := target, ar := e.capability d zone dest, distance := 0, vr := 0 }]

/-- R52, R57: what the calculator does on the notice that the trip enters LIFTING. A REFERENCE trip has no destination
and builds no entry. v_perm is 0 in LIFTING (R58). The zones and the stops are the active ones (R52), and so are the class caps,
also between an activation and the next sample (DEDUCED, assumption log 56). -/
def State.buildEnvelope (s : State) (r : TripRecord) : State :=
  match s.cfg.active with
  | none => s
  | some d =>
    let p0 := (s.pos.view.leading r.dir).getD s.pos.view.xP
    s.modEnv fun e =>
      { e with
        list := match r.kind, r.destination with
          | .reference, _ => []
          | _, none => []
          | _, some k => buildList d s.load r.dir p0 ((d.stops[k]?).map (·.x) |>.getD 0)
        zoneOfRecord := (s.pos.view.leading r.dir).map d.zoneAt
        cap := some (d.classCap r.cls)
        pendingCap := none
        vPerm := 0 }

/-- R60: the list is discarded with the trip record. -/
def State.dropEnvelope (s : State) : State :=
  s.modEnv fun e => { e with list := [], zoneOfRecord := none, cap := none, pendingCap := none, vPerm := 0 }

/-- R58: on the notice that the trip has left RUNNING, CREEPING or INTERVENED, v_perm becomes 0 at once. Where the new state is
INTERVENED it is worked out again at the next view (R84). -/
def State.zeroPermitted (s : State) : State := s.modEnv fun e => { e with vPerm := 0 }

/-- R57: the class notice of a trip in progress. -/
def State.classNotice (s : State) (newCap : Nat) : State :=
  s.modEnv fun e => { e with pendingCap := if newCap < e.cap.getD 0 then some newCap else none }

/-! ### One view (R51, R54 to R58, R61) -/

/-- R53: the capabilities worked out again where the current zone differs from the zone of record, which then becomes the
current zone, with an empty list too. A trip's list is held, empty or not, while a class cap is in force (R57, R60; DEDUCED,
assumption log 21). -/
def Envelope.rezone (d : LineDesc) (est : Estimator) (e : Envelope) (p : Int) : Envelope :=
  if e.cap = none || e.zoneOfRecord = some (d.zoneAt p) then e
  else { e with
    list := e.list.map fun r => { r with ar := est.capability d (d.zoneAt p) r.position },
    zoneOfRecord := some (d.zoneAt p) }

/-- R54: the signed distance of a position, positive ahead of the car. -/
def aheadDistance (dir : Dir) (position : Nat) (p : Int) : Int :=
  match dir with
  | .up => (position : Int) - p
  | .down => p - (position : Int)

/-- R55: d of an entry: the distance less the overrun margin, never below 0. -/
def brakingRoom (d : LineDesc) (dist : Int) : Nat := (dist - d.line.overrun).toNat

/-- R54, R55: distances and v_r of the entries; a ZONE entry behind the car is removed. -/
def Envelope.advance (d : LineDesc) (dir : Dir) (p : Int) (e : Envelope) : Envelope :=
  { e with list :=
    (e.list.filter fun r => r.kind == .destination || decide (0 ≤ aheadDistance dir r.position p)).map fun r =>
      { r with
        distance := aheadDistance dir r.position p,
        vr := curveSpeed r.target r.ar (brakingRoom d (aheadDistance dir r.position p)) } }

/-- R56: the zone limit term of a view. -/
def zoneTerm (d : LineDesc) (v : View) : Nat :=
  match v.pos with
  | .confirmed => d.zoneLimit (d.zoneAt v.xP)
  | .disputed => min (d.zoneLimit (d.zoneAt v.xP)) (d.zoneLimit (d.zoneAt v.xQ))
  | .unreferenced => (d.zones.map (·.speedLimit)).foldl min (d.zoneLimit 0)

/-- R57: a pending cap comes into force once the measured speed is at or below it. -/
def Envelope.capTest (vm : Nat) (e : Envelope) : Envelope :=
  match e.pendingCap with
  | some c => if vm ≤ c then { e with cap := some c, pendingCap := none } else e
  | none => e

/-- R58: the trip states in which v_perm is worked out. -/
def TripState.supervised : TripState → Bool
  | .running | .creeping | .intervened => true
  | _ => false

/-- R58: the permitted speed. -/
def permittedSpeed (d : LineDesc) (st : TripState) (v : View) (e : Envelope) : Nat :=
  if st.supervised then (e.list.map (·.vr)).foldl min (min (min 15000 (zoneTerm d v)) (e.cap.getD 15000)) else 0

/-- R61: the service threshold. -/
def serviceThreshold (m : MarginRec) (vPerm : Nat) : Nat := vPerm + max m.serviceAbs (vPerm * m.servicePct / 100)

/-- R61: the emergency threshold. -/
def emergencyThreshold (m : MarginRec) (vPerm : Nat) : Nat := vPerm + max m.emergencyAbs (vPerm * m.emergencyPct / 100)

/-- R61: the level, the highest row whose condition v_m meets. -/
def speedLevel (vm warning service emergency : Nat) : Level :=
  if emergency < vm then .emergency
  else if service < vm then .service
  else if warning < vm then .warning
  else .none

/-- R51: the envelope result of a view. -/
def envelopeResult (d : LineDesc) (st : TripState) (v : View) (e : Envelope) : EnvResult :=
  let vp := permittedSpeed d st v e
  let sv := serviceThreshold d.margin vp
  let em := emergencyThreshold d.margin vp
  let lm := d.line.lineMax + d.margin.emergencyAbs
  { view := v, vm := v.vm, vPerm := vp, warning := vp, service := sv, emergency := em, lineMax := lm,
    level := speedLevel v.vm vp sv em, lineMaxFlag := decide (lm < v.vm), restrictions := e.list,
    zoneTerm := zoneTerm d v, cap := e.cap }

/-- R53 to R55: the list at a view, from the leading position for the trip direction where there is one. -/
def Envelope.track (d : LineDesc) (est : Estimator) (dir : Option Dir) (v : View) (e : Envelope) : Envelope :=
  match dir.bind fun x => (v.leading x).map fun p => (x, p) with
  | some (x, p) => (e.rezone d est p).advance d x p
  | none => e

/-- R51: the work of the calculator on one view. -/
def Envelope.view (d : LineDesc) (est : Estimator) (st : TripState) (dir : Option Dir) (v : View) (e : Envelope) :
    Envelope :=
  let e2 := (e.track d est dir v).capTest v.vm
  let r := envelopeResult d st v e2
  { e2 with vPerm := r.vPerm, result := r }

/-- R51: the calculator takes the published view. -/
def State.envelopeView (s : State) : State :=
  match s.cfg.active with
  | none => s
  | some d =>
    s.modEnv fun e => e.view d s.load s.trip.state (s.trip.record.map (·.dir)) s.pos.view

/-- R54: the nearest restriction is the first entry of the list. R76, R83: the distance of the DESTINATION entry. -/
def Envelope.destinationDistance (e : Envelope) : Option Int :=
  (e.list.find? fun r => r.kind == .destination).map (·.distance)

end Sys2Proof.Machine
end

