-- ==== Sys2Proof/Machine/Outputs.lean ====
section
/-! DEFINITION. The fail-safe outputs and their feedback supervision (R89, R90), the trip controller's requests (R91,
R92), and the output permission (R93). -/

namespace Sys2Proof.Machine

open Sys2Proof

/-- R90: a brake commanded APPLIED; the apply timer starts where the command changes while the feedback reads LIFTED. -/
def BrakeLine.apply (b : BrakeLine) : BrakeLine :=
  match b.command with
  | .applied => b
  | .lifted =>
    { b with
      command := .applied
      liftDone := false
      applyTimer := if b.feedback = .lifted then some Config.applyTimerMs else none }

/-- R90: a brake commanded LIFTED; the apply timer stops. With the contact reading LIFTED already, the lift counts as completed
for the disagreement flag, of SB as R101 has it of EB. A brake that is commanded LIFTED already keeps the lift that it has
completed, EB too when an EB lift begins (DESIGN CHOICE, assumption log 45). -/
def BrakeLine.lift (b : BrakeLine) : BrakeLine :=
  match b.command with
  | .lifted => b
  | .applied => { b with command := .lifted, applyTimer := none, liftDone := decide (b.feedback = .lifted) }

/-- R90: the feedback contact changes. APPLIED stops the timer and ends the stuck condition; LIFTED while the command is
APPLIED starts the timer. -/
def BrakeLine.read (b : BrakeLine) (reading : Contact) : BrakeLine :=
  match reading with
  | .applied => { b with feedback := .applied, applyTimer := none, stuck := false }
  | .lifted =>
    match b.command with
    | .applied => { b with feedback := .lifted, applyTimer := some Config.applyTimerMs }
    | .lifted => { b with feedback := .lifted, liftDone := true }

/-- R90: the feedback disagreement flag: commanded LIFTED, lift completed, feedback reading APPLIED. -/
def BrakeLine.disagrees (b : BrakeLine) : Bool := b.command == .lifted && b.liftDone && b.feedback == .applied

/-- R89: SB to APPLIED and DE to OFF. -/
def BrakeSup.hold (b : BrakeSup) : BrakeSup := { b with sb := b.sb.apply, de := false }

/-- R89, R96, R101: EB to APPLIED; an EB lift in progress ends. -/
def BrakeSup.applyEb (b : BrakeSup) : BrakeSup := { b with eb := b.eb.apply, ebLift := none }

/-- R91: the apply request of the trip controller. -/
def State.applyRequest (s : State) : State := s.modBrake BrakeSup.hold

/-- R93: the output permission: both cars' door states LOCKED and both car links LIVE. -/
def State.permission (s : State) : Bool :=
  s.door.a.state == .locked && s.door.b.state == .locked && s.link.a.live && s.link.b.live

/-- R92: the conditions of both requests. -/
def State.requestsOpen (s : State) : Bool :=
  !s.brake.latch && s.brake.eb.command == .lifted && s.brake.eb.feedback == .lifted && s.permission

/-- R92: the drive request. -/
def State.driveRequest (s : State) : State :=
  if s.requestsOpen then s.modBrake fun b => { b with de := true } else s

/-- R92: the lift request. -/
def State.liftRequest (s : State) : State :=
  if s.requestsOpen && s.brake.de && !s.brake.sb.stuck then s.modBrake fun b => { b with sb := b.sb.lift } else s

/-- R93: the test made each time a door state or a link state changes: a permission drop. -/
def State.permissionTest (s : State) : State :=
  if !s.permission && (s.brake.de || s.brake.sb.command == .lifted) then
    s.modBrake fun b => { b.hold with drops := satAdd 255 b.drops 1 }
  else s

end Sys2Proof.Machine
end

