-- ==== Sys2Proof/Machine/StoreOps.lean ====
section
/-! DEFINITION. The credential store's records (R160 to R170): plans, pass table, spent-token ring, deny list, class map,
clear, charge, clock. -/

namespace Sys2Proof.Machine

open Sys2Proof

/-- 9.3: the pass capacity of a plan. -/
def passCapacity : Nat → Nat
  | 0 => 768 | 1 => 640 | 2 => 512 | _ => 896

/-- 9.3: the ring capacity of a plan. -/
def ringCapacity : Nat → Nat
  | 0 => 256 | 1 => 384 | 2 => 512 | _ => 128

/-- R163: rides of an unlimited pass. -/
def unlimitedRides : Nat := 65535

/-- R163: the record of an id. -/
def CredStore.pass? (c : CredStore) (id : Nat) : Option PassRec := c.passes.find? fun p => p.id == id

/-- R163: the index of the record of an id. -/
def CredStore.passIndex? (c : CredStore) (id : Nat) : Option Nat := c.passes.findIdx? fun p => p.id == id

/-- R163, R164: a record inserted at its place in id order, or replacing the record of its id. -/
def insertPass (r : PassRec) : List PassRec → List PassRec
  | [] => [r]
  | p :: ps => if r.id < p.id then r :: p :: ps else if r.id = p.id then r :: ps else p :: insertPass r ps

/-- R167: an append to the spent-token ring of a capacity. -/
def ringAppend (capacity id : Nat) (ring : List Nat) : List Nat :=
  if ring.contains id then ring
  else if capacity ≤ ring.length then ring.drop 1 ++ [id]
  else ring ++ [id]

/-- R168: an id with its lowest k bits taken as 0. -/
def maskLow (id k : Nat) : Nat := id / 2 ^ k * 2 ^ k

/-- R168: an entry's kind covers a credential's kind. -/
def DenyKind.covers : DenyKind → CredKind → Bool
  | .either, _ => true
  | .pass, .pass => true
  | .token, .token => true
  | _, _ => false

/-- R168: an entry matches a credential. -/
def DenyRec.covers (e : DenyRec) (kind : CredKind) (id : Nat) : Bool :=
  e.kind.covers kind && maskLow id e.k == e.base

/-- R169: the class map entry of a fare class. -/
def CredStore.class? (c : CredStore) (cls : Nat) : ClassRec := c.classes.getD cls ⟨.standard, true⟩

/-- R170: the time since a last entry, in seconds, signed. -/
def CredStore.since (c : CredStore) (entry : Nat × Nat) : Int :=
  ((c.day : Int) - entry.1) * 86400 + ((c.clock : Int) - entry.2)

/-- R166: a committed passage of a pass: one ride less unless unlimited, and the last entry with its platform. -/
def PassRec.charge (p : PassRec) (platform day second : Nat) : PassRec :=
  { p with
    rides := if p.rides = unlimitedRides then p.rides else p.rides - 1
    lastEntry := some (day, second)
    lastPlatform := some platform }

/-- R166: the store charges the credential of a commit (`committed`) or an unverified commit, at the day and second in
force. -/
def CredStore.charge (c : CredStore) (kind : CredKind) (id platform : Nat) (committed : Bool) : CredStore :=
  match kind with
  | .pass =>
    if committed then
      { c with passes := c.passes.map fun p => if p.id = id then p.charge platform c.day c.clock else p }
    else c
  | .token => { c with ring := ringAppend (ringCapacity c.plan) id c.ring }

/-- R161: a store clear begins with a plan: the pass table and the ring are emptied, and the cursor becomes 0 UP. -/
def CredStore.beginClear (c : CredStore) (plan : Nat) : CredStore :=
  { c with
    state := .clearing, clearRunning := true, plan := plan, passes := [], ring := [], cursor := 0, cursorDir := .up }

/-- R161: a store clear begins, with its GATE report. -/
def State.beginClear (s : State) (plan : Nat) : State :=
  (s.modStore fun c => c.beginClear plan).report (.gate (.storeClearing plan))

/-- R170: one expiry of the one-second timer. -/
def CredStore.tick (c : CredStore) : CredStore :=
  if c.clock + 1 < 86400 then { c with clock := c.clock + 1 }
  else { c with clock := 0, day := satAdd 65535 c.day 1 }

/-- R165: PASS READ: the records returned and the cursor after. -/
def CredStore.readPasses (c : CredStore) : List PassRec × Nat :=
  let n := c.passes.length
  let k := min c.cursor n
  match c.cursorDir with
  | .up =>
    let rs := (c.passes.drop k).take 8
    (rs, k + rs.length)
  | .down =>
    let rs := ((c.passes.take k).reverse).take 8
    (rs, k - rs.length)

end Sys2Proof.Machine
end

