-- ==== Sys2Proof/Machine/Windows.lean ====
section
/-! DEFINITION. The boarding controller (chapter 8): windows opening, closing and shutting, the credit test, passage
grants and how they end. -/

namespace Sys2Proof.Machine

open Sys2Proof

/-- One car's window changed. -/
def State.modWindow (s : State) (c : Car) (f : Window → Window) : State :=
  s.modBoard fun b => { b with windows := b.windows.set c (f (b.windows.get c)) }

/-- The window of a car. -/
def State.window (s : State) (c : Car) : Window := s.board.windows.get c

/-- The station number of a platform index. -/
def State.station (s : State) (p : Nat) : Nat := ((s.cfg.active.bind fun d => d.platform? p).map (·.station)).getD 0

/-- R151: a WINDOW report with what every one carries. -/
def State.windowReport (s : State) (c : Car) (e : WindowEvent) (p : Nat) : State :=
  s.report (.window e c p (s.station p) (s.window c).state s.recordDeparture)

/-- R155: lock pending set on a gate of the platform; a DISABLED gate takes no lock. -/
def lockGate (p : Nat) (g : Gate) : Gate :=
  if g.platform = some p && g.state != .disabled then { g with lock := true } else g

/-- R155: lock pending is set on every gate of the platform that is not DISABLED. -/
def State.lockGates (s : State) (p : Nat) : State :=
  s.modBus fun b => { b with gates := b.gates.map (lockGate p) }

/-- R139: a window shuts: the leftover pending becomes the carry-over of its platform, and the SHUT state is handed to the
trip controller and the door release controller. -/
def State.shutWindow (s : State) (c : Car) (reason : CloseReason) : State :=
  let w := s.window c
  let p := w.platform.getD 0
  let s1 := s.modBoard fun b => { b with carry := b.carry.set p w.pending }
  let s2 := s1.modWindow c fun w => { w with state := .shut, platform := none, pending := 0, inflight := 0, reason := none }
  ((s2.recompute).windowReport c
    (.shut reason w.granted w.committed w.released w.unverified w.carryIn w.pending) p).send (.windowShut c)

/-- R137, R138: an OPEN window goes to CLOSING: LOCK at its gates, then the CLOSING report, or the shutting in the same
event where no grant is in flight. A window that is not OPEN is left as it is. -/
def State.closeWindow (s : State) (c : Car) (reason : CloseReason) : State :=
  let w := s.window c
  if w.state = .opened then
    let p := w.platform.getD 0
    let s1 := (s.lockGates p).modWindow c fun w => { w with state := .closing, reason := some reason }
    if w.inflight = 0 then s1.shutWindow c reason
    else s1.windowReport c (.closing reason w.inflight) p
  else s

/-- R136: a window opens at the platform that the car's stop names for the car. -/
def State.openWindow (s : State) (c : Car) : State :=
  match s.cfg.active, s.carPlatform c with
  | some d, some p =>
    let carry := s.board.carry.getD p 0
    let start := min carry d.car.capacity
    let s1 := s.modBoard fun b => { b with carry := b.carry.set p 0 }
    let s2 := s1.modWindow c fun _ =>
      { state := .opened, platform := some p, pending := start, inflight := 0, reason := none, granted := 0,
        committed := 0, released := 0, unverified := 0, carryIn := start, deferred := false }
    (s2.recompute).windowReport c (.opened start (carry - start)) p
  | _, _ => s

/-- R134: the platform that the car's stop names for the car has auto_window set. -/
def State.autoWindow (s : State) (c : Car) : Bool :=
  ((s.cfg.active.bind fun d => (s.carPlatform c).bind fun p => d.platform? p).map (·.autoWindow)).getD false

/-- R134: the change of a car's door state to OPEN, from any other state, handed over to the boarding controller. -/
def State.doorsOpened (s : State) (c : Car) : State :=
  if (s.window c).state = .shut && s.trip.state != .preparing && s.autoWindow c then
    if s.cfg.commit = .writing then s.modWindow c fun w => { w with deferred := true } else s.openWindow c
  else s

/-- R134: at the end of a commit the deferred-open flag of a car is tested, and then cleared in every case. -/
def State.deferredOpen (s : State) (c : Car) : State :=
  let w := s.window c
  let s1 := s.modWindow c fun w => { w with deferred := false }
  if w.deferred && (s.door.get c).state == .opened && w.state == .shut && s.autoWindow c then s1.openWindow c else s1

/-- R142: an in-delta lowers the pending count of a window that is not SHUT. -/
def State.inDelta (s : State) (c : Car) (n : Nat) : State :=
  if (s.window c).state = .shut then s
  else (s.modWindow c fun w => { w with pending := w.pending - n }).recompute

/-! ### Credits and grants -/

/-- R143: onboard + pending + inflight of a car. -/
def State.admittedSum (s : State) (c : Car) : Nat :=
  (s.link.get c).onboard + (s.window c).pending + (s.window c).inflight

/-- R143: the credit test of a category for a car. -/
def creditPasses (d : LineDesc) (cat : Category) (sum : Nat) : Bool :=
  decide (sum < d.car.capacity * thresholdEighths (d.threshold.code cat) / 8) && decide (sum < d.car.capacity)

/-- The grant in flight at a gate address. -/
def State.grantAt (s : State) (gate : Nat) : Option Grant := s.board.grants.find? fun g => g.gate == gate

/-- R133, R137: the car whose OPEN window is bound to a platform. -/
def State.openWindowAt (s : State) (p : Nat) : Option Car :=
  if (s.window .a).state = .opened && (s.window .a).platform = some p then some .a
  else if (s.window .b).state = .opened && (s.window .b).platform = some p then some .b
  else none

/-- R144: the answers to a credit request. -/
inductive CreditAnswer where
  | granted | gateBusy | noCar | spent | passback | full
  deriving DecidableEq, Repr

/-- R144: the answer to the credit request of a gate's decision, with the car whose window it concerns. The platform is the
gate's as the request carries it. The state of the store is not tested: a decision that was open when a clear began may get
its grant during the clear (R144 against R161; DESIGN CHOICE, assumption log 46). -/
def State.creditAnswer (s : State) (gate : Nat) (x : Decision) : CreditAnswer × Car :=
  if (s.grantAt gate).isSome then (.gateBusy, .a)
  else
    match s.cfg.active, x.platform.bind s.openWindowAt with
    | some d, some c =>
      if s.board.grants.any fun g => g.kind == x.kind && g.id == x.id && g.gate != gate then
        (match x.kind with
          | .token => .spent
          | .pass => .passback, c)
      else if (s.window c).granted = 65535 then (.full, c)
      else if creditPasses d x.category (s.admittedSum c) then (.granted, c)
      else (.full, c)
    | _, _ => (.noCar, .a)

/-- The grants kept in order of gate address, which is the order in which STATUS BOARDING lists them; R151 and R178 give no
order (DESIGN CHOICE, assumption log 53). -/
def insertGrant (g : Grant) : List Grant → List Grant
  | [] => [g]
  | x :: xs => if g.gate < x.gate then g :: x :: xs else if g.gate = x.gate then g :: xs else x :: insertGrant g xs

/-- R145, R163: the pass table index of a grant: that of the record at the grant for a PASS, absent for a TOKEN. -/
def CredStore.grantIndex (c : CredStore) (x : Decision) : Option Nat :=
  match x.kind with
  | .pass => c.passIndex? x.id
  | .token => none

/-- R145: a grant is made: inflight and the granted count of the window rise by 1. -/
def State.makeGrant (s : State) (gate : Nat) (c : Car) (x : Decision) : State :=
  let g : Grant :=
    { gate := gate, car := c, platform := (s.window c).platform.getD 0, kind := x.kind, id := x.id, category := x.category,
      passIndex := s.store.grantIndex x, day := s.store.day, second := s.store.clock,
      timer := ((s.cfg.active).map fun d => d.timing.passageMs).getD 0 }
  ((s.modBoard fun b => { b with grants := insertGrant g b.grants }).modWindow c fun w =>
    { w with inflight := w.inflight + 1, granted := w.granted + 1 }).recompute

/-- How a grant ends (8.5): a commit, a release, an unverified commit. -/
inductive GrantEnd where
  | commit | release | unverified
  deriving DecidableEq, Repr

/-- R146 to R148: the counts of the window when a grant ends. -/
def Window.endGrant (w : Window) : GrantEnd → Window
  | .commit => { w with inflight := w.inflight - 1, pending := w.pending + 1, committed := w.committed + 1 }
  | .release => { w with inflight := w.inflight - 1, released := w.released + 1 }
  | .unverified => { w with inflight := w.inflight - 1, pending := w.pending + 1, unverified := w.unverified + 1 }

/-- R146 to R148: what the store is handed when a grant ends. -/
def State.chargeGrant (s : State) (g : Grant) : GrantEnd → State
  | .commit => s.modStore fun c => c.charge g.kind g.id g.platform true
  | .release => s
  | .unverified => s.modStore fun c => c.charge g.kind g.id g.platform false

/-- R139: a CLOSING window with no grant left in flight shuts. -/
def State.shutIfEmpty (s : State) (c : Car) : State :=
  if (s.window c).state = .closing && (s.window c).inflight == 0 then
    s.shutWindow c ((s.window c).reason.getD .host)
  else s

/-- R146 to R148: a grant ends, as one event. -/
def State.endGrant (s : State) (g : Grant) (how : GrantEnd) : State :=
  let s1 := s.modBoard fun b => { b with grants := b.grants.filter fun x => x.gate != g.gate }
  let s2 := (s1.modWindow g.car fun w => w.endGrant how).recompute
  (s2.chargeGrant g how).shutIfEmpty g.car

/-- R148: the notice that a gate is out of contact ends its grant by an unverified commit. -/
def State.outOfContact (s : State) (gate : Nat) : State :=
  match s.grantAt gate with
  | some g => s.endGrant g .unverified
  | none => s

end Sys2Proof.Machine
end

