-- ==== Sys2Proof/Machine/Doors.lean ====
section
/-! DEFINITION. The command slot (R118) and the door release controller (R119 to R130): door states, authority, the close
cycle, obstructions, HELD, and the door violations. -/

namespace Sys2Proof.Machine

open Sys2Proof

/-! ### The command slot (R118) -/

/-- R118: a command is placed: the tag advances modulo 8, the slot takes it, and a car command record is sent at once. -/
def State.placeCommand (s : State) (c : Car) (cmd : DoorCommand) : State :=
  (s.modLink c fun l => { l with tag := (l.tag + 1) % 8, slot := some cmd }).sendCommand c

/-- The slot is emptied; the record changes, so one is sent at once (R111). -/
def State.emptySlot (s : State) (c : Car) : State := (s.modLink c fun l => { l with slot := none }).syncCommand c

/-- R118: the slot is emptied where it holds REOPEN. -/
def State.dropReopen (s : State) (c : Car) : State :=
  if (s.link.get c).slot = some .reopen then s.emptySlot c else s

/-! ### Door violations (R130) -/

/-- R130: the trip part of DOOR_UNLOCKED_RUN. -/
def State.runUnderWay (s : State) : Bool :=
  match s.trip.state with
  | .lifting | .running | .creeping => true
  | .settling | .intervened => !s.pos.view.standstill
  | _ => false

/-- R130: DOOR_UNLOCKED_RUN holds for the car. -/
def State.unlockedRun (s : State) (c : Car) : Bool := !(s.door.get c).allLocked && s.runUnderWay

/-- R130: DOOR_WITHOUT_AUTHORITY holds for the car. -/
def State.openWithoutAuthority (s : State) (c : Car) : Bool :=
  (s.door.get c).state == .unsecured && !s.unlockedRun c

/-- R130: WRONG_SIDE holds for the car. -/
def State.wrongSideOpen (s : State) (c : Car) : Bool :=
  match (s.door.get c).authority with
  | some .left => notLocked (s.door.get c).right
  | some .right => notLocked (s.door.get c).left
  | none => false

/-- R130: a cause is raised where its condition is found true with its memory flag clear. -/
def State.raiseIf (s : State) (found memory : Bool) (cause : Cause) : State :=
  if found && !memory then s.raise cause else s

/-- R130: the three conditions tested for a car whose link is LIVE; the memory flags follow the conditions. -/
def State.violationTest (s : State) (c : Car) : State :=
  if (s.link.get c).live then
    let d := s.door.get c
    let run := s.unlockedRun c
    let without := s.openWithoutAuthority c
    let wrong := s.wrongSideOpen c
    let s1 := s.modDoor c fun d => { d with memUnlocked := run, memNoAuthority := without, memWrongSide := wrong }
    ((s1.raiseIf run d.memUnlocked .doorUnlockedRun).raiseIf without d.memNoAuthority .doorWithoutAuthority).raiseIf
      wrong d.memWrongSide .wrongSide
  else s

/-! ### Changes of door state and authority (R119, R137) -/

/-- R119: the door state that follows from the link, the authority and the last side reports. -/
def State.derivedDoor (s : State) (c : Car) (authority : Option Side) : DoorState :=
  if (s.link.get c).live then
    match authority.isSome, (s.door.get c).allLocked with
    | false, true => .locked
    | false, false => .unsecured
    | true, true => .released
    | true, false => .opened
  else .unknown

/-- R137: the events with which one change reaches the boarding controller; the first taken gives the closing reason. -/
def closeReasons (old : DoorCtl) (authority : Option Side) (st : DoorState) (extra : List CloseReason) :
    List CloseReason :=
  extra ++ (if old.authority.isSome && authority.isNone then [.authority] else []) ++
    (if old.state = .opened && st != .opened then [.doors] else [])

/-- R137: the window goes to CLOSING on the event taken first, a free choice where several arrive. -/
def State.closeWindowFor (s : State) (c : Car) (reasons : List CloseReason) : State :=
  match reasons with
  | [] => s
  | r :: _ =>
    if (s.window c).state = .opened then
      (s.afterPick reasons.length).closeWindow c (reasons.getD (s.pickOf reasons.length) r)
    else s

/-- R134, R137: what the boarding controller does on a change of door state and authority. -/
def State.tellBoarding (s : State) (c : Car) (old : DoorCtl) (authority : Option Side) (st : DoorState)
    (extra : List CloseReason) : State :=
  let s1 := s.closeWindowFor c (closeReasons old authority st extra)
  let s2 := if old.state = .opened && st != .opened then s1.modWindow c fun w => { w with deferred := false } else s1
  if old.state != .opened && st = .opened then s2.doorsOpened c else s2

/-- R119: door state and authority of a car set together; the change is handed to the boarding controller, to the brake
supervisor for its output permission (R93), to the violation test (R130), to the car command record (R111), and a change
of door state to the trip controller (R129). `extra` are further events for the boarding controller. -/
def State.setDoor (s : State) (c : Car) (authority : Option Side) (st : DoorState) (extra : List CloseReason) : State :=
  let old := s.door.get c
  let s1 := s.modDoor c fun d => { d with authority := authority, state := st }
  let s2 := (s1.tellBoarding c old authority st extra).permissionTest
  let s3 := (s2.syncCommand c).violationTest c
  if old.state = st then s3 else s3.send (.doorChanged c)

/-- R121: the door state after a withdrawal. -/
def afterWithdrawal : DoorState → DoorState
  | .released => .locked
  | .opened => .unsecured
  | st => st

/-- R122, R123: the door state after a grant: RELEASED, or OPEN where a side is not LOCKED; CLOSING and HELD go on. -/
def State.afterGrant (s : State) (c : Car) (side : Side) : DoorState :=
  match (s.door.get c).state with
  | .closing => .closing
  | .held => .held
  | _ => s.derivedDoor c (some side)

/-- R121: authority held is withdrawn, with the door state that follows, and one DOOR report. -/
def State.withdrawTo (s : State) (c : Car) (reason : WithdrawReason) (st : DoorState) (extra : List CloseReason) : State :=
  if (s.door.get c).authority.isSome then (s.setDoor c none st extra).doorReport c (.withdrawn reason)
  else if (s.door.get c).state = st && extra = [] then s
  else s.setDoor c none st extra

/-- R121: a withdrawal with the door state of its table. -/
def State.withdraw (s : State) (c : Car) (reason : WithdrawReason) : State :=
  s.withdrawTo c reason (afterWithdrawal (s.door.get c).state) []

/-! ### Authority (R120 to R123) -/

/-- R120: the side of the authority of a car that meets the authority conditions; none where it does not meet them. -/
def State.authoritySide (s : State) (c : Car) : Option Side :=
  match s.cfg.active, s.carStop with
  | some d, some k =>
    if s.pos.view.atStop = some k && s.pos.view.pos == .confirmed && s.pos.view.settled &&
        s.brake.sb.command == .applied && s.brake.sb.feedback == .applied && (s.link.get c).live then
      ((d.stopPlatform? k c).bind d.platform?).map (·.side)
    else none
  | _, _ => none

/-- R121: at the first test that fails, the authority is withdrawn. -/
def State.authorityTest (s : State) (c : Car) : State :=
  if (s.door.get c).authority.isSome && (s.authoritySide c).isNone then s.withdraw c .condition else s

/-- The trip state is PARKED. -/
def TripState.isParked : TripState → Bool
  | .parked _ => true
  | _ => false

/-- R122, R123: the authority becomes the platform's side, with one DOOR report; the arrival flag is cleared. -/
def State.grant (s : State) (c : Car) (side : Side) : State :=
  (((s.modDoor c fun d => { d with arrival := false }).setDoor c (some side) (s.afterGrant c side) []).doorReport c
    .granted)

/-- R122: while the arrival flag is armed, the car is granted authority at the first event at which it meets the
conditions with the trip state PARKED; an OPEN command is placed if the slot is empty and the door drive works. -/
def State.grantTest (s : State) (c : Car) : State :=
  if (s.door.get c).arrival && s.trip.state.isParked && (s.door.get c).authority.isNone then
    match s.authoritySide c with
    | some side =>
      let s1 := s.grant c side
      if (s1.link.get c).slot.isNone && !(s1.link.get c).faults.doorDrive then s1.placeCommand c .openDoors else s1
    | none => s
  else s

/-- The tests of R121 and R122 for both cars. -/
def State.authorityTests (s : State) : State :=
  (((s.authorityTest .a).authorityTest .b).grantTest .a).grantTest .b

/-- The tests of R121, R122 and R130 for both cars: at each sample view and each change of trip state. -/
def State.doorTests (s : State) : State := ((s.authorityTests).violationTest .a).violationTest .b

/-- R122: the arrival flags of both cars. -/
def State.setArrivals (s : State) (armed : Bool) : State :=
  (s.modDoor .a fun d => { d with arrival := armed }).modDoor .b fun d => { d with arrival := armed }

/-! ### The close cycle (R125 to R128) -/

/-- T_close of the active TIMING record. -/
def State.closeWait (s : State) : Nat := ((s.cfg.active).map fun d => d.timing.doorCloseMs).getD 0

/-- R126: a CLOSE command is placed, and T_close starts. -/
def State.beginClose (s : State) (c : Car) : State :=
  (s.modDoor c fun d => { d with cycle := some .close, tClose := some s.closeWait }).placeCommand c .closeDoors

/-- R125, R129: a close cycle starts. With the window SHUT the CLOSE phase begins at once; otherwise the boarding
controller is asked to put it to CLOSING, and the cycle waits in phase WINDOW. -/
def State.startCycle (s : State) (c : Car) : State :=
  let shut := (s.window c).state = .shut
  let s1 := s.modDoor c fun d => { d with retry := 0, cycle := some .window, tClose := none }
  let s2 := s1.setDoor c (s.door.get c).authority .closing (if shut then [] else [.doorClose])
  if shut then s2.beginClose c else s2

/-- R126, R128: a completion, of a cycle or of a hold: the car is all LOCKED. -/
def State.completeCycle (s : State) (c : Car) : State :=
  let s1 := s.modDoor c fun d => { d with cycle := none, tClose := none, retry := 0 }
  (s1.dropReopen c).withdrawTo c .closed .locked []

/-- R126: the notice that the window is SHUT, in phase WINDOW. -/
def State.windowShutForDoor (s : State) (c : Car) : State :=
  if (s.door.get c).cycle = some .window then
    if (s.door.get c).allLocked then s.completeCycle c else s.beginClose c
  else s

/-- R128: entry to HELD: from phase CLOSE a REOPEN command is placed. -/
def State.enterHeld (s : State) (c : Car) (reason : HeldReason) : State :=
  let fromClose := (s.door.get c).cycle = some .close
  let s1 := s.modDoor c fun d => { d with cycle := none, tClose := none }
  let s2 := if fromClose then s1.placeCommand c .reopen else s1
  (s2.setDoor c (s.door.get c).authority .held []).doorReport c (.held reason)

/-- N_retry of the active DOOR record. -/
def State.retryLimit (s : State) : Nat := ((s.cfg.active).map fun d => d.door.obstructionRetries).getD 0

/-- R127: an obstruction in phase CLOSE with the CLOSE command taken. The count runs from 0 to 7 (R119, DEDUCED, assumption
log 12). -/
def State.obstruct (s : State) (c : Car) : State :=
  let n := (s.door.get c).retry + 1
  let s1 := s.modDoor c fun d => { d with retry := min 7 n }
  if n ≤ s.retryLimit then
    (s1.modDoor c fun d => { d with cycle := some .reopen }).placeCommand c .reopen
  else s1.enterHeld c .obstruction

/-- R127: some side reports OBSTRUCTED. -/
def DoorCtl.obstructed (d : DoorCtl) : Bool := d.left == .obstructed || d.right == .obstructed

/-- R127: the doors stand open again: some side reports OPEN and neither reports MOVING or OBSTRUCTED. -/
def DoorCtl.standsOpen (d : DoorCtl) : Bool :=
  (d.left == .standingOpen || d.right == .standingOpen) && !d.obstructed && d.left != .moving && d.right != .moving

/-- R126 to R128: side reports that meet a close cycle. -/
def State.reportInCycle (s : State) (c : Car) (phase : CyclePhase) : State :=
  let d := s.door.get c
  match phase with
  | .window => s
  | .close =>
    if d.allLocked then s.completeCycle c
    else if d.obstructed && (s.link.get c).slot.isNone then s.obstruct c
    else s
  | .reopen =>
    if d.allLocked then s.completeCycle c
    else if d.standsOpen && (s.link.get c).slot.isNone then s.beginClose c
    else s

/-- The door state derived again where it differs (R119). -/
def State.deriveDoor (s : State) (c : Car) : State :=
  let st := s.derivedDoor c (s.door.get c).authority
  if (s.door.get c).state = st then s else s.setDoor c (s.door.get c).authority st []

/-- R119: outside CLOSING and HELD the door state is set again as the link of the car becomes LIVE. -/
def State.linkDoor (s : State) (c : Car) : State :=
  match (s.door.get c).state with
  | .closing | .held => s
  | _ => s.deriveDoor c

/-- R110 step 6, R119: both side reports handed to the door release controller. -/
def State.doorReports (s : State) (c : Car) (left right : DoorReport) : State :=
  let s1 := s.modDoor c fun d => { d with left := left, right := right }
  let s2 :=
    match (s1.door.get c).state, (s1.door.get c).cycle with
    | .closing, some phase => s1.reportInCycle c phase
    | .held, _ => if (s1.door.get c).allLocked then s1.completeCycle c else s1
    | _, _ => s1.deriveDoor c
  s2.violationTest c

/-- R124, R128: a close cycle or a hold ends without completing; the state is derived again. -/
def State.endCycle (s : State) (c : Car) : State :=
  let s1 := s.modDoor c fun d => { d with cycle := none, tClose := none, retry := 0 }
  s1.deriveDoor c

/-- R113: what the door release controller and the boarding controller do when the car link goes LOST. -/
def State.doorLost (s : State) (c : Car) : State :=
  let s1 := s.modDoor c fun d => { d with
    cycle := none, tClose := none, retry := 0, arrival := false, memUnlocked := false, memNoAuthority := false,
    memWrongSide := false }
  s1.withdrawTo c .link .unknown [.link]

/-- R129: what the door release controller does with a car on the notice of PREPARING step 2. -/
def State.stepTwoDoor (s : State) (c : Car) : State :=
  match (s.door.get c).state with
  | .released => s.withdraw c .step2
  | .opened | .unsecured | .held => s.startCycle c
  | .closing | .locked | .unknown => s

end Sys2Proof.Machine
end

