-- ==== Sys2Proof/Machine/Trips.lean ====
section
/-! DEFINITION. The trip controller (chapter 5): changes of trip state, PREPARING, lifting, controlled stops, the notice of
an intervention, and the work on one sample view. -/

namespace Sys2Proof.Machine

open Sys2Proof

/-! ### Trip state and record -/

/-- RUNNING or CREEPING: the states in which v_ref may differ from 0 (R75). -/
def TripState.hauling : TripState → Bool
  | .running | .creeping => true
  | _ => false

/-- The trip record changed. -/
def State.modRecord (s : State) (f : TripRecord → TripRecord) : State :=
  s.modTrip fun t => { t with record := t.record.map f }

/-- R75, R82: the trip controller in a new state; outside RUNNING and CREEPING v_ref is 0 and the no-progress window is
closed. -/
def TripCtl.enter (t : TripCtl) (new : TripState) : TripCtl :=
  { t with
    state := new
    vRef := if new.hauling then t.vRef else 0
    progress := if new.hauling then t.progress else none }

/-- R58, R84: the notice that the trip has gone from RUNNING, CREEPING or INTERVENED to a state other than RUNNING and
CREEPING. -/
def State.tellEnvelope (s : State) (old new : TripState) : State :=
  if old.supervised && !new.hauling then s.zeroPermitted else s

/-- R58, R75, R82: the trip controller enters a new state and tells the envelope calculator. -/
def State.enterTrip (s : State) (new : TripState) : State := (s.modTrip fun t => t.enter new).tellEnvelope s.trip.state new

/-- A change of trip state: the notice of R58, the arrival flags of R122, the tests of R121, R122 and R130, and the car
command records of R111. -/
def State.setTripState (s : State) (new : TripState) : State :=
  let s1 := s.enterTrip new
  let s2 := if new.isParked then s1 else s1.setArrivals false
  (s2.doorTests).syncCommands

/-- The stop of a PARKED state. -/
def TripState.stop? : TripState → Option Nat
  | .parked k => some k
  | _ => none

/-- R88: a TRIP report. -/
def State.tripReport (s : State) (before after : TripState) (reason : TripReason) : State :=
  s.report (.trip s.recordDeparture (s.trip.record.map (·.kind)) before after after.stop? reason s.pos.view.xP)

/-- A change of trip state with its TRIP report. -/
def State.moveTrip (s : State) (new : TripState) (reason : TripReason) : State :=
  (s.setTripState new).tripReport s.trip.state new reason

/-- R65: the state in which a trip ends by the stop-window test. -/
def View.stopWindowState (v : View) : TripState :=
  match v.pos, v.atStop with
  | .confirmed, some k => .parked k
  | _, _ => .stranded

/-- R64: the record discarded, with what belongs to it at the trip controller. -/
def TripCtl.discard (t : TripCtl) : TripCtl :=
  { t with record := none, step := 0, holdWait := false, tPrep := none, tLift := none }

/-- R64, R47, R60: the record discarded after LIFTING entry: the load estimator and the envelope calculator are told. -/
def State.discardRecord (s : State) : State := ((s.modTrip TripCtl.discard).dropSnapshot).dropEnvelope

/-- R71: a departure in PREPARING is abandoned. -/
def State.abandon (s : State) (reason : TripReason) : State :=
  if s.trip.state = .preparing then
    (s.modTrip fun t => { t.discard with lastAbandon := some reason }).moveTrip s.pos.view.stopWindowState reason
  else s

/-- R73: a lift ends by LIFT_FAIL, STOP or ALARM. -/
def State.endLift (s : State) (reason : TripReason) : State :=
  if s.trip.state = .lifting then
    ((s.applyRequest).discardRecord).moveTrip s.pos.view.stopWindowState reason
  else s

/-- R73: LIFT_FAIL. -/
def State.failLift (s : State) : State :=
  if s.trip.state = .lifting then (s.raise .liftFail).endLift .liftFail else s

/-! ### Lifting (R72, R73) -/

/-- T_lift of the active TIMING record. -/
def State.liftWait (s : State) : Nat := ((s.cfg.active).map fun d => d.timing.brakeLiftMs).getD 0

/-- The cap of the record's speed class (R57). -/
def State.recordCap (s : State) (r : TripRecord) : Option Nat := s.cfg.active.map fun d => d.classCap r.cls

/-- R72: entry to LIFTING. -/
def State.enterLifting (s : State) : State :=
  match s.trip.record with
  | none => s
  | some r =>
    let old := s.trip.state
    let s1 := (s.modTrip fun t => { t with tPrep := none, step := 0, holdWait := false }).setTripState .lifting
    let s2 := ((s1.takeSnapshot r.departure r.dir).buildEnvelope r).modRecord fun q =>
      { q with profileCap := s.recordCap r }
    let s3 := (s2.tripReport old .lifting .lifting).driveRequest
    s3.modTrip fun t => { t with tLift := some s.liftWait, liftPhase := .drive }

/-- R72: a drive status RUNNING in the drive phase: SB is asked to lift, and the lift is in its brake phase. -/
def State.enterBrakePhase (s : State) : State :=
  if s.trip.state = .lifting && s.trip.liftPhase == .drive then
    ((s.liftRequest).modTrip fun t => { t with tLift := some s.liftWait, liftPhase := .brake }).authorityTests
  else s

/-- R73: the no-progress window, the reference travel and the rollback accumulation of the position monitor (with the forward
run count of R33) start from 0. -/
def State.startRun (s : State) : State :=
  (s.modPos fun m => { m with rollback := 0, forwardRun := 0 }).modTrip fun t =>
    { t with tLift := none, progress := none, record := t.record.map fun r => { r with refTravel := 0 } }

/-- R73: the SB feedback shows lifted in the brake phase. -/
def State.lifted (s : State) : State :=
  if s.trip.state = .lifting && s.trip.liftPhase == .brake then (s.startRun).moveTrip .running .lifted else s

/-! ### PREPARING (R68, R69) -/

/-- R69: the HOLD flag of a LIVE car. -/
def State.holds (s : State) (c : Car) : Bool := (s.link.get c).live && (s.link.get c).attendant.hold

/-- R80: the drive-line state reads LOST. -/
def TripCtl.driveLostNow (t : TripCtl) : Bool := t.driveMissed == 5

/-- R80: the drive-line state reads READY. -/
def TripCtl.driveReady (t : TripCtl) : Bool := !t.driveLostNow && t.driveLast == .ready

/-- The attended flag of the active DOOR record. -/
def State.attended (s : State) : Bool := ((s.cfg.active).map fun d => d.door.attended).getD false

/-- R69: the interlocks in their order, each with whether it fails. -/
def State.interlocks (s : State) (r : TripRecord) : List (Bool × TripReason) :=
  [(s.brake.latch, .latch),
   (r.kind != .reference && s.pos.view.pos != .confirmed, .position),
   (!(s.link.a.live && s.link.b.live), .carLink),
   (!(s.door.a.state == .locked && s.door.b.state == .locked), .doors),
   (!s.trip.driveReady, .drive),
   (!s.withinLimit r.dir, .imbalance),
   (s.attended && !(s.link.a.attendant.ready && s.link.b.attendant.ready), .attendant)]

/-- R69: step 3. -/
def State.stepThree (s : State) : State :=
  match s.trip.record with
  | none => s
  | some r =>
    if s.holds .a || s.holds .b then s.modTrip fun t => { t with step := 3, holdWait := true }
    else
      let s1 := s.modTrip fun t => { t with step := 3, holdWait := false }
      match (s.interlocks r).find? fun i => i.1 with
      | some i => s1.abandon i.2
      | none => s1.enterLifting

/-- R69: step 3 is taken again where it waits on HOLD. -/
def State.holdRecheck (s : State) : State :=
  if s.trip.state = .preparing && s.trip.step == 3 && s.trip.holdWait then s.stepThree else s

/-- A door state that does not hold step 2. -/
def DoorState.secure : DoorState → Bool
  | .locked | .unknown => true
  | _ => false

/-- R68: step 2 is complete when each car's door state is LOCKED or UNKNOWN. -/
def State.stepTwoTest (s : State) : State :=
  if s.trip.state = .preparing && s.trip.step == 2 && s.door.a.state.secure && s.door.b.state.secure then s.stepThree
  else s

/-- R68, R71, R129: the notice of a car's changed door state: a car that becomes HELD before step 2 is complete abandons the
departure; otherwise step 2 is tested. A car that was HELD before is no such change, and step 2 puts it through a new
cycle. -/
def State.doorNotice (s : State) (c : Car) : State :=
  if s.trip.state = .preparing && (s.trip.step == 1 || s.trip.step == 2) && (s.door.get c).state == .held then
    s.abandon .doors
  else s.stepTwoTest

/-- R68: step 2: the door release controller acts on both cars and answers. -/
def State.stepTwo (s : State) : State :=
  (((s.modTrip fun t => { t with step := 2 }).stepTwoDoor .a).stepTwoDoor .b).stepTwoTest

/-- R68: step 1 is complete when both cars' windows are SHUT. -/
def State.stepOneTest (s : State) : State :=
  if s.trip.state = .preparing && s.trip.step == 1 && (s.window .a).state == .shut && (s.window .b).state == .shut then
    s.stepTwo
  else s

/-- R68: step 1: the boarding controller puts every OPEN window to CLOSING. -/
def State.stepOne (s : State) : State :=
  ((s.closeWindow .a .preparing).closeWindow .b .preparing).stepOneTest

/-- T_prep of the active TIMING record. -/
def State.prepareWait (s : State) : Nat := ((s.cfg.active).map fun d => d.timing.preparingMs).getD 0

/-- R64, R67, R70: an accepted departure: the record, the departure number, PREPARING at step 1, and its report. The change of
trip state makes its authority tests (R121) before the boarding controller takes the notice of PREPARING (R68, R137); no rule
orders a withdrawal by those tests and the notice, which decides the closing reason (DESIGN CHOICE, assumption log 59). -/
def State.depart (s : State) (kind : TripKind) (origin destination : Option Nat) (dir : Dir) (cls : SpeedClass) : State :=
  let n := satAdd 65535 s.trip.departures 1
  let r : TripRecord :=
    { kind := kind, origin := origin, destination := destination, dir := dir, cls := cls, departure := n,
      profileCap := none, controlled := none, markFound := false, refTravel := 0, overtravel := false }
  let s1 := s.modTrip fun t =>
    { t with record := some r, departures := n, step := 1, holdWait := false, tPrep := some s.prepareWait }
  (s1.moveTrip .preparing .dispatched).stepOne

/-! ### Controlled stop, alarm, intervention (R78, R79, R84) -/

/-- The reason a controlled stop shows in a TRIP report. -/
def StopReason.report : StopReason → TripReason
  | .stopped => .stopped
  | .alarm => .alarm
  | .markFound => .markFound

/-- R78: a controlled stop is put in the record unless one is already present. -/
def State.putStop (s : State) (why : StopReason) : State :=
  match s.trip.record.map (·.controlled) with
  | some none =>
    ((s.modRecord fun r => { r with controlled := some why }).tripReport s.trip.state s.trip.state why.report).syncCommands
  | _ => s

/-- R78: the effect of STOP. -/
def State.stopTrip (s : State) : State :=
  match s.trip.state with
  | .preparing => s.abandon .stopped
  | .lifting => s.endLift .stopped
  | .running | .creeping => s.putStop .stopped
  | _ => s

/-- R79: an alarm event. -/
def State.alarm (s : State) : State :=
  match s.trip.state with
  | .lifting => s.endLift .alarm
  | .running | .creeping => s.putStop .alarm
  | _ => s

/-- R84: the notice of an intervention. -/
def State.interventionNotice (s : State) : State :=
  match s.trip.state with
  | .preparing => s.abandon .intervention
  | .lifting | .running | .creeping | .settling =>
    (s.modTrip fun t => { t with tLift := none, record := t.record.map fun r => { r with controlled := none } }).moveTrip
      .intervened .intervention
  | _ => s

/-- R24, R86: the position monitor tells the trip controller of the mark that confirmed the position. -/
def State.markFound (s : State) : State :=
  if (s.trip.record.map (·.kind)) = some .reference then
    let s1 := s.modRecord fun r => { r with markFound := true }
    if s.trip.state = .running then s1.putStop .markFound else s1
  else s

/-! ### The reference speed (R74 to R76) -/

/-- R74: a_prof of a braking capability. -/
def profileDecel (ar : Nat) : Nat := ar * 3 / 4

/-- R74: the curve of one restriction. -/
def profileCurve (d : LineDesc) (r : Restriction) : Nat :=
  curveSpeed (if r.kind = .destination then d.profile.creepSpeed else r.target) (profileDecel r.ar)
    (brakingRoom d r.distance)

/-- R74: the speed ceiling v_cap. -/
def speedCeiling (d : LineDesc) (st : TripState) (v : View) (r : TripRecord) (list : List Restriction) : Nat :=
  let c := (list.map (profileCurve d)).foldl min (r.profileCap.getD 15000)
  let c1 := if st = .creeping || v.pos = .disputed then min c d.profile.creepSpeed else c
  if r.controlled.isSome then 0 else c1

/-- R75: a_prof of the nearest restriction, or for an empty list that of the lowest snapshot a_eff. -/
def rampDecel (e : Estimator) (list : List Restriction) : Nat :=
  match list with
  | r :: _ => profileDecel r.ar
  | [] => profileDecel e.lowestSnapshot

/-- R75: the ramp from the v_ref of the previous view. -/
def ramp (inc dec vCap vRef : Nat) : Nat := if vRef ≤ vCap then min (vRef + inc) vCap else max vCap (vRef - dec)

/-- R75: the new v_ref. -/
def newReference (d : LineDesc) (e : Estimator) (res : EnvResult) (st : TripState) (r : TripRecord) (vRef : Nat) : Nat :=
  min (ramp (d.profile.accel / 100) (max 1 (rampDecel e res.restrictions / 100))
    (speedCeiling d st res.view r res.restrictions) vRef) (res.vPerm - d.margin.profileMargin)

/-- The distance of the DESTINATION entry of an envelope result. -/
def EnvResult.destination (r : EnvResult) : Option Int :=
  (r.restrictions.find? fun e => e.kind == .destination).map (·.distance)

/-- R76: the state tests of a view in RUNNING or CREEPING. -/
def State.stateTests (s : State) (d : LineDesc) : State :=
  match s.env.result.destination with
  | none => s
  | some dist =>
    if dist ≤ ((d.line.stopWindow / 2 : Nat) : Int) then s.moveTrip .settling .settle
    else if s.trip.state = .running ∧ dist ≤ (d.profile.creepDistance : Int) then s.moveTrip .creeping .creep
    else s

/-- R74, R75, R78: the reference of a view, where the trip is still RUNNING or CREEPING after the state tests. -/
def State.haul (s : State) (d : LineDesc) : State :=
  match s.trip.record with
  | none => s
  | some r =>
    if s.trip.state.hauling then
      let v := newReference d s.load s.env.result s.trip.state r s.trip.vRef
      if r.controlled.isSome ∧ v = 0 then s.moveTrip .settling .settle else s.modTrip fun t => { t with vRef := v }
    else s

/-! ### Supervision during a run (R82, R83, R86) -/

/-- R82: the no-progress window after a view, and whether NO_PROGRESS is raised. -/
def progressStep (vPrev : Nat) (travel : Int) (w : Option (Int × Nat)) : Option (Int × Nat) × Bool :=
  if vPrev < 200 then (none, false)
  else
    match w with
    | none => (some (0, 0), false)
    | some (f, n) => if n + 1 < 200 then (some (f + travel, n + 1), false) else (none, decide (f + travel < 50))

/-- R82: no-progress supervision, on the v_ref sent at the previous view. -/
def State.progressTest (s : State) (vPrev : Nat) : State :=
  match s.trip.record with
  | none => s
  | some r =>
    if s.trip.state.hauling then
      let p := progressStep vPrev (forward r.dir s.pos.view.travelP) s.trip.progress
      let s1 := s.modTrip fun t => { t with progress := p.1 }
      if p.2 then s1.raise .noProgress else s1
    else s

/-- R86: the reference travel of a REFERENCE trip grows at a view in RUNNING or SETTLING, and the limit is tested in
RUNNING. -/
def State.referenceTest (s : State) (d : LineDesc) : State :=
  match s.trip.record with
  | none => s
  | some r =>
    if r.kind = .reference then
      let n := satAdd 500000 r.refTravel s.pos.view.travelP.natAbs
      let s1 := s.modRecord fun r => { r with refTravel := n }
      if s.trip.state = .running ∧ d.line.refTravelLimit < n ∧ r.markFound = false then s1.raise .referenceNotFound else s1
    else s

/-- R83: the overtravel test. -/
def State.overtravelTest (s : State) (d : LineDesc) : State :=
  match s.trip.record, s.env.result.destination with
  | some r, some dist =>
    if dist < -(d.line.overtravel : Int) ∧ r.overtravel = false then
      (s.modRecord fun r => { r with overtravel := true }).raise .overtravel
    else s
  | _, _ => s

/-- R86: the controlled stop of a mark found before RUNNING. -/
def State.lateMarkStop (s : State) : State :=
  if s.trip.state = .running && (s.trip.record.map (·.markFound)) == some true then s.putStop .markFound else s

/-- The work of a view in RUNNING or CREEPING (5.4). -/
def State.runView (s : State) (d : LineDesc) : State :=
  ((((((s.lateMarkStop).stateTests d).haul d).progressTest s.trip.vRef).referenceTest d).overtravelTest d)

/-- R77: the reason of the report at the end of SETTLING. -/
def arrivalReason : Option StopReason → TripReason
  | none => .arrived
  | some r => r.report

/-- The auto_release flag of the active DOOR record. -/
def State.autoRelease (s : State) : Bool := ((s.cfg.active).map fun d => d.door.autoRelease).getD false

/-- R77, R122: the end of SETTLING. -/
def State.arrive (s : State) : State :=
  let st := s.pos.view.stopWindowState
  let s1 := (s.applyRequest).discardRecord
  let s2 := if st.isParked && s.autoRelease && !s.brake.latch then s1.setArrivals true else s1
  s2.moveTrip st (arrivalReason (s.trip.record.bind (·.controlled)))

/-- R77: a view in SETTLING. -/
def State.settleView (s : State) (d : LineDesc) : State :=
  let s1 := (s.referenceTest d).overtravelTest d
  if s.pos.view.settled then s1.arrive else s1

/-- R85: a view in INTERVENED. -/
def State.intervenedView (s : State) (d : LineDesc) : State :=
  let s1 := s.overtravelTest d
  if s.pos.view.settled then (s1.discardRecord).moveTrip s.pos.view.stopWindowState .intervenedEnd else s1

/-- R65: the parked test of a view. -/
def State.parkedView (s : State) (k : Nat) : State :=
  if s.pos.view.pos = .confirmed ∧ s.pos.view.atStop = some k then s else s.moveTrip .stranded .position

/-! ### The drive line (R80) -/

/-- R80: the signed speed of a drive reference record. -/
def TripCtl.signedRef (t : TripCtl) : Int :=
  match t.record with
  | none => 0
  | some r =>
    match r.dir with
    | .up => t.vRef
    | .down => -(t.vRef : Int)

/-- R80: the missed count before a new reference is sent. -/
def TripCtl.countMissed (t : TripCtl) : TripCtl :=
  { t with driveMissed := if t.driveHeard then 0 else min 5 (t.driveMissed + 1), driveHeard := false }

/-- R80: the missed count, DRIVE_LOST, and the drive reference record of a view. A record that waits behind another on the
drive line keeps the DE of the moment at which it was formed (DESIGN CHOICE, assumption log 47). -/
def State.driveView (s : State) : State :=
  let s1 := s.modTrip TripCtl.countMissed
  let s2 := if s1.trip.driveMissed == 5 && s.trip.driveMissed != 5 && s.brake.de then s1.raise .driveLost else s1
  s2.sendRecord .driveLine (.driveReference s2.trip.signedRef s2.brake.de)

/-- The work of the trip controller on one view. At the settled view that ends SETTLING, DE goes OFF (R77) before the missed
count of the drive line is taken (R80), so that a count which reaches 5 at that view raises no DRIVE_LOST; no rule orders the
two (DESIGN CHOICE, assumption log 55). -/
def State.tripView (s : State) : State :=
  match s.cfg.active with
  | none => s
  | some d =>
    match s.trip.state with
    | .unconfigured => s
    | .parked k => (s.parkedView k).driveView
    | .running | .creeping => (s.runView d).driveView
    | .settling => (s.settleView d).driveView
    | .intervened => (s.intervenedView d).driveView
    | .stranded | .preparing | .lifting => s.driveView

end Sys2Proof.Machine
end

