-- ==== Sys2Proof/Machine/Causes.lean ====
section
/-! DEFINITION. The brake supervisor's decisions (chapter 6): severities, the fault capture list, taking a cause, the
envelope results, the escalation check, and the taking of the internal notices. -/

namespace Sys2Proof.Machine

open Sys2Proof

/-! ### Causes and the capture list (6.4, R102) -/

/-- 6.4: the severity of a cause. -/
def Cause.severity : Cause → Severity
  | .overspeedEmergency | .lineMax | .rollback | .driftUnderBrake | .divergence | .doorUnlockedRun | .overtravel
  | .insufficientDecel | .sbStuck | .ebStuck | .startUp => .emergency
  | .overspeedService | .noProgress | .driveLost | .driveFault | .carLinkLostRun | .doorWithoutAuthority | .wrongSide
  | .referenceNotFound => .service
  | .liftFail | .markMismatch | .unexpectedMark => .recordOnly

/-- R102: a further occurrence of an entry's cause. -/
def Capture.again (departure : Nat) (e : Capture) : Capture :=
  { e with count := satAdd 255 e.count 1, lastDeparture := departure }

/-- R102: an entry for the cause is present. -/
def hasCapture (c : Cause) (l : List Capture) : Bool := l.any fun e => e.cause == c

/-- R102: the capture list and the overflow flag after a cause has been taken. -/
def BrakeSup.capture (c : Cause) (departure : Nat) (x : Option Int) (b : BrakeSup) : BrakeSup :=
  if hasCapture c b.captures then
    { b with captures := b.captures.map fun e => if e.cause = c then e.again departure else e }
  else if b.captures.length < Config.captureSize then
    { b with captures := b.captures ++ [⟨c, c.severity, departure, departure, 1, x⟩] }
  else { b with overflow := true }

/-- R108: the count of a cause's entry, or none where it is not stored. -/
def BrakeSup.captureCount (b : BrakeSup) (c : Cause) : Option Nat :=
  (b.captures.find? fun e => e.cause == c).map (·.count)

/-! ### Reports (R108) -/

/-- R108: a FAULT report of a cause that does not change the state. -/
def State.faultReport (s : State) (c : Cause) : State :=
  s.report (.fault c c.severity s.departureNumber s.pos.view.xP (s.brake.captureCount c) s.brake.state)

/-- R108: an INTERVENTION report. It has no field that could say that a cause was not stored (R102), and its v_perm is that of
the latest envelope result, also where the calculator has not yet taken the latest view (DESIGN CHOICE, assumption
log 45). -/
def State.interventionReport (s : State) (e : InterventionEvent) (c : Option Cause) : State :=
  s.report (.intervention e c s.brake.state s.departureNumber s.pos.view.xP s.pos.view.vm s.env.result.vPerm
    s.brake.interventions)

/-! ### Taking a cause (R96) -/

/-- R96, R99: the supervisor enters SERVICE. -/
def BrakeSup.enterService (b : BrakeSup) : BrakeSup :=
  { b.hold with
    state := .service
    escalation := some Config.escalationMs
    check := .notMade
    requiredDecel := 0
    interventions := satAdd 255 b.interventions 1 }

/-- R96: the supervisor enters EMERGENCY, by an intervention or an escalation. -/
def BrakeSup.enterEmergency (b : BrakeSup) : BrakeSup :=
  { b.hold.applyEb with
    state := .emergency
    escalation := none
    interventions := satAdd 255 b.interventions 1 }

/-- What follows an entry to SERVICE or EMERGENCY: the latch clears the arrival flags (R122) and shows in the car command
records (R111), the commanded SB is an authority condition (R121), the notice goes to the trip controller (R98), and the
report is sent (R108). -/
def State.afterEntry (s : State) (e : InterventionEvent) (c : Cause) : State :=
  ((((s.setArrivals false).authorityTests).syncCommands).interventionNotice).interventionReport e (some c)

/-- R96: what a cause does by its severity and the state it finds. -/
inductive CauseEffect where
  | record | service | emergency | escalated
  deriving DecidableEq, Repr

/-- R96: the table. -/
def causeEffect : Severity → SupState → CauseEffect
  | .recordOnly, _ => .record
  | .service, .normal | .service, .warning => .service
  | .service, .service | .service, .emergency => .record
  | .emergency, .normal | .emergency, .warning => .emergency
  | .emergency, .service => .escalated
  | .emergency, .emergency => .record

/-- R96, R102: the supervisor takes a raised cause as one event. -/
def State.takeCause (s : State) (c : Cause) : State :=
  let x := if s.pos.published then some s.pos.view.xP else none
  let s1 := s.modBrake fun b => b.capture c s.departureNumber x
  match causeEffect c.severity s.brake.state with
  | .record => s1.faultReport c
  | .service => (s1.modBrake BrakeSup.enterService).afterEntry .service c
  | .emergency => (s1.modBrake BrakeSup.enterEmergency).afterEntry .emergency c
  | .escalated => (s1.modBrake BrakeSup.enterEmergency).afterEntry .escalated c

/-! ### Envelope results (R95) -/

/-- R95: the overspeed cause of a level after the previous level. -/
def overspeedCause (prev level : Level) : Option Cause :=
  match level, prev with
  | .service, .none | .service, .warning => some .overspeedService
  | .emergency, .none | .emergency, .warning | .emergency, .service => some .overspeedEmergency
  | _, _ => none

/-- R95: the moves between NORMAL and WARNING. -/
def State.warningTest (s : State) (r : EnvResult) : State :=
  match r.level, s.brake.state with
  | .warning, .normal =>
    (s.modBrake fun b => { b with state := .warning }).report
      (.warning s.departureNumber r.view.xP r.vm r.vPerm r.warning)
  | .none, .warning => s.modBrake fun b => { b with state := .normal }
  | _, _ => s

/-- The cause taken, where there is one. -/
def State.takeCauseOf (s : State) : Option Cause → State
  | some c => s.takeCause c
  | none => s

/-- R95: the supervisor takes an envelope result; its causes are taken in the order of the rule. A move to WARNING with its
report comes before a LINE_MAX of the same result (DESIGN CHOICE, assumption log 45). -/
def State.brakeResult (s : State) : State :=
  let r := s.env.result
  let s1 := (s.modBrake fun b => { b with lastLevel := r.level, lastFlag := r.lineMaxFlag }).warningTest r
  let s2 := s1.takeCauseOf (overspeedCause s.brake.lastLevel r.level)
  if r.lineMaxFlag && !s.brake.lastFlag then s2.takeCause .lineMax else s2

/-! ### The escalation check (R99) -/

/-- R99: the current zone, by the zones of the active configuration, also between an activation and the next sample (R48;
DEDUCED, assumption log 56). -/
def State.currentZone (s : State) (d : LineDesc) : Nat :=
  d.zoneAt ((s.trip.record.bind fun r => s.pos.view.leading r.dir).getD s.pos.view.xP)

/-- R99: the measured deceleration, signed. -/
def Monitor.measuredDecel (m : Monitor) : Int := ((m.vmHistory.headD 0 : Nat) - (m.view.vm : Int)) * 2

/-- R99: the check, on expiry of the escalation timer. A check passed at standstill keeps the required deceleration of the
current zone for STATUS, though step 1 works none out (DESIGN CHOICE, assumption log 36). -/
def State.escalationCheck (s : State) : State :=
  match s.cfg.active with
  | none => s
  | some d =>
    let required := s.load.aEffAt (s.currentZone d) / 2
    let a := s.pos.measuredDecel
    if s.pos.view.standstill then
      s.modBrake fun b => { b with check := .passedStill, requiredDecel := required }
    else if a < (required : Int) then
      (s.modBrake fun b => { b with check := .failed a, requiredDecel := required }).takeCause .insufficientDecel
    else s.modBrake fun b => { b with check := .passed a, requiredDecel := required }

/-! ### Taking the internal notices -/

/-- One notice taken by the block it goes to: a cause by the brake supervisor (R96); a window SHUT by the door release
controller and the trip controller (R139); a changed door state by the trip controller (R68, R129). -/
def State.takeNotice (s : State) : Notice → State
  | .cause c => s.takeCause c
  | .windowShut c => (s.windowShutForDoor c).stepOneTest
  | .doorChanged c => s.doorNotice c

/-- One of the waiting notices taken, a free choice where several wait (DESIGN CHOICE, assumption log 2). -/
def State.takeOne (s : State) : State :=
  let k := s.pickOf s.notices.length
  match s.notices[k]? with
  | none => s
  | some n => ({ s.afterPick s.notices.length with notices := s.notices.eraseIdx k }).takeNotice n

/-- Notices taken one at a time, at most `n` of them. -/
def settleN : Nat → State → State
  | 0, s => s
  | n + 1, s => if s.notices = [] then s else settleN n s.takeOne

/-- Every notice taken (DESIGN CHOICE, assumption log 5). -/
def State.settle (s : State) : State := settleN Config.settleFuel s

end Sys2Proof.Machine
end

