-- ==== Sys2Proof/Machine/GateOps.lean ====
section
/-! DEFINITION. The gate bus controller (9.1, 9.2): gate entries, polls, answers, misses, and the verdict order. -/

namespace Sys2Proof.Machine

open Sys2Proof

/-- The gate entry at an address 1 to 12. -/
def State.gate (s : State) (g : Nat) : Gate := s.bus.gates.getD (g - 1) Gate.reset

/-- The gate entry at an address changed; an address outside 1 to 12 names no entry. -/
def State.modGate (s : State) (g : Nat) (f : Gate → Gate) : State :=
  s.modBus fun b => { b with gates := if g = 0 then b.gates else b.gates.modify (g - 1) f }

/-- The addresses 1 to 12. -/
def gateAddresses : List Nat := (List.range 12).map (· + 1)

/-- R153: the addresses polled: those not DISABLED, and all twelve while the part is UNCONFIGURED. None is polled while
the commit state is LOADING (DEDUCED, assumption log 10). -/
def State.polled (s : State) : List Nat :=
  if s.cfg.commit = .loading then []
  else if s.unconfigured then gateAddresses
  else gateAddresses.filter fun g => (s.gate g).state != .disabled

/-- R153: the polled address next after the poll position, wrapping. -/
def nextAddress (position : Nat) (polled : List Nat) : Option Nat :=
  (polled.find? fun g => decide (position < g)).or polled.head?

/-- R153: the next poll, with the lock flag of R155; the bus is silent where no gate is polled. A poll that waits behind a
verdict keeps the lock flag of the moment at which it was formed (R155 and R181 leave it open; DESIGN CHOICE, assumption
log 47). -/
def State.sendPoll (s : State) : State :=
  match nextAddress s.bus.position s.polled with
  | none => s.modBus fun b => { b with outstanding := none }
  | some g =>
    (s.modBus fun b => { b with position := g, outstanding := some (g, (s.gate g).lock) }).sendRecord .gateBus
      (.poll g (s.gate g).lock)

/-- A decision is open at some gate. -/
def State.deciding (s : State) : Bool := s.bus.gates.any fun g => g.decision.isSome

/-- A silent bus takes up polling again where a gate is polled. -/
def State.wakeBus (s : State) : State :=
  if s.bus.outstanding.isNone && !s.deciding && !s.polled.isEmpty then s.sendPoll else s

/-- The PLATFORM index and station of a gate, as a GATE report shows them. -/
def State.gateStation (s : State) (g : Nat) : Option Nat := ((s.gate g).platform).map s.station

/-- R153, R155: what a valid answer does to the gate entry. -/
def Gate.answered (g : Gate) (lockSent : Bool) : Gate :=
  { g with
    misses := 0
    lock := g.lock && !lockSent
    state := if g.state = .offline then .online else g.state }

/-- R153: a valid answer; an OFFLINE gate becomes ONLINE with one GATE report. -/
def State.validAnswer (s : State) (g : Nat) (lockSent : Bool) : State :=
  let s1 := s.modGate g fun e => e.answered lockSent
  if (s.gate g).state = .offline then
    s1.report (.gate (.online g (s.gate g).platform (s.gateStation g) (s1.gate g).state (s.gate g).missCount))
  else s1

/-- R153: the answer of a gate while its poll is outstanding: the entry, the handling of the answer (R154), and the next
poll. Any other answer is discarded and not counted. While the part is UNCONFIGURED no entry changes, and `bare` alone is
done with the answer (R17, R154). -/
def State.answer (s : State) (g : Nat) (bare handle : State → State) : State :=
  match s.bus.outstanding with
  | none => s
  | some (a, lockSent) =>
    if a = g then
      let s1 := s.modBus fun b => { b with outstanding := none }
      if s.unconfigured then (bare s1).wakeBus else ((handle (s1.validAnswer g lockSent)).wakeBus).settle
    else s

/-- R149, R153: the protocol error count. -/
def State.protocolError (s : State) (g : Nat) : State :=
  s.modGate g fun e => { e with protocolErrors := satAdd 255 e.protocolErrors 1 }

/-- R153: the gate entry after a miss. -/
def Gate.miss (g : Gate) : Gate := { g with missCount := satAdd 255 g.missCount 1, misses := min 5 (g.misses + 1) }

/-- R153: a miss; the fifth consecutive one makes an ONLINE gate OFFLINE. -/
def State.missGate (s : State) (g : Nat) : State :=
  let s1 := s.modGate g Gate.miss
  if (s1.gate g).misses == 5 && (s1.gate g).state == .online then
    let s2 := (s1.modGate g fun e => { e with state := .offline }).outOfContact g
    s2.report (.gate (.offline g (s2.gate g).platform (s2.gateStation g) .offline (s2.gate g).missCount))
  else s1

/-- R153: the outstanding poll ends without a valid answer; the next poll goes out. -/
def State.pollFails (s : State) (protocol : Bool) : State :=
  match s.bus.outstanding with
  | none => s
  | some (g, _) =>
    let s1 := s.figuresSettled.modBus fun b => { b with outstanding := none }
    let s2 := if s.unconfigured then s1 else (if protocol then s1.protocolError g else s1).missGate g
    (s2.wakeBus).settle

/-- R146, R147, R149: a PASSED or ABANDONED answer ends the gate's grant, or is a protocol error. -/
def State.passageAnswer (s : State) (g : Nat) (how : GrantEnd) : State :=
  match s.grantAt g with
  | some x => s.endGrant x how
  | none => s.protocolError g

/-- R154: a FAULT answer. -/
def State.faultAnswer (s : State) (g code : Nat) : State :=
  ((s.modGate g fun e => { e with faultCode := some code }).report
    (.gate (.fault g code (s.grantAt g).isSome))).outOfContact g

/-! ### Verdicts (R157 to R159) -/

/-- R157: the verdict is sent. -/
def State.verdict (s : State) (g : Nat) (refuse : Option RefuseReason) (rides : Nat) : State :=
  s.sendRecord .gateBus (.verdict g refuse rides)

/-- R169: the fare class in use for a presentation. -/
def State.classInUse (s : State) (x : Credential) : Nat :=
  match x.kind with
  | .token => x.fareClass.val
  | .pass => ((s.store.pass? x.id.toNat).map (·.cls)).getD x.fareClass.val

/-- R158, steps 6a to 6d. -/
def State.passChecks (s : State) (id : Nat) : List (Bool × RefuseReason) :=
  match s.store.pass? id with
  | none => [(true, .unknownPass)]
  | some p =>
    [(decide (s.store.day < p.firstDay) || decide (p.lastDay < s.store.day), .expired),
     (p.rides == 0, .noRides),
     (match p.lastEntry, s.cfg.active.bind fun d => d.timing.passbackS with
      | some e, some t => decide (s.store.since e < (t : Int))
      | _, _ => false, .passback)]

/-- R158: the checks of the verdict order up to step 7, each with whether it fails. -/
def State.verdictChecks (s : State) (g : Nat) (x : Credential) : List (Bool × RefuseReason) :=
  [((s.gate g).state == .disabled || s.store.state != .ready, .outOfService),
   ((s.grantAt g).isSome, .gateBusy),
   (((s.gate g).platform.bind s.openWindowAt).isNone, .noCar),
   (!(s.store.class? (s.classInUse x)).enabled, .classBlocked),
   (s.store.deny.any fun e => e.covers x.kind x.id.toNat, .denied)] ++
  match x.kind with
  | .pass => s.passChecks x.id.toNat
  | .token => [(x.issueDay.toNat != s.store.day, .wrongDay), (s.store.ring.contains x.id.toNat, .spent)]

/-- R157, R159: the decision of a presentation at a gate that has passed every check before the credit step, with what its
credit request carries. -/
def State.decisionOf (s : State) (g : Nat) (x : Credential) : Decision where
  credential := x
  platform := (s.gate g).platform
  category := (s.store.class? (s.classInUse x)).category
  passIndex := match x.kind with
    | .pass => s.store.passIndex? x.id.toNat
    | .token => none
  rides := match x.kind with
    | .pass => ((s.store.pass? x.id.toNat).map (·.rides)).getD 0
    | .token => 0

/-- R157, R158: a PRESENT answer: a check that fails refuses; otherwise the decision waits for its credit answer. -/
def State.presentAnswer (s : State) (g : Nat) (x : Credential) : State :=
  match (s.verdictChecks g x).find? fun c => c.1 with
  | some c => s.verdict g (some c.2) 0
  | none => s.modGate g fun e => { e with decision := some (s.decisionOf g x) }

/-- R159: the reason of a REFUSE for a credit answer. -/
def CreditAnswer.refusal : CreditAnswer → Option RefuseReason
  | .granted => none
  | .gateBusy => some .gateBusy
  | .noCar => some .noCar
  | .spent => some .spent
  | .passback => some .passback
  | .full => some .full

/-- R144, R145, R159: the boarding controller takes the credit request of an open decision; the verdict follows its
answer, the decision closes, and the next poll goes out. -/
def State.creditStep (s : State) (g : Nat) : State :=
  match (s.gate g).decision with
  | none => s
  | some x =>
    let a := s.creditAnswer g x
    let s1 := match a.1 with
      | .granted => s.figuresSettled.makeGrant g a.2 x
      | _ => s.figuresSettled
    let s2 := s1.verdict g a.1.refusal (match a.1 with
      | .granted => x.rides
      | _ => 0)
    (s2.modGate g fun e => { e with decision := none }).wakeBus

/-- R156, R148: the gate becomes DISABLED by GATE ENABLE OFF. -/
def State.disableGate (s : State) (g : Nat) : State :=
  let s1 := (s.modGate g fun e => { e with state := .disabled, lock := false }).outOfContact g
  s1.report (.gate (.disabled g .disabled))

/-- R156: the gate becomes OFFLINE by GATE ENABLE ON. -/
def State.enableGate (s : State) (g : Nat) : State :=
  ((s.modGate g fun e => { e with state := .offline, misses := 0 }).report (.gate (.enabled g .offline))).wakeBus

/-- R152: a gate entry under a GATE record; a newly enabled gate starts with consecutive misses 0, as under GATE ENABLE ON
(R14, R156; DEDUCED, assumption log 13). -/
def Gate.configure (r : Option GateRec) (g : Gate) : Gate :=
  let on := (r.map (·.enabled)).getD false
  { g with
    platform := r.map (·.platform)
    misses := if on && g.state == .disabled then 0 else g.misses
    lock := on && g.lock
    state := if on then (if g.state = .disabled then .offline else g.state) else .disabled }

/-- R152: every gate entry set from the GATE records. -/
def State.configureGates (s : State) (d : LineDesc) : State :=
  s.modBus fun b => { b with gates := b.gates.zipIdx.map fun g => g.1.configure (d.gate? (g.2 + 1)) }

end Sys2Proof.Machine
end

