-- ==== Sys2Proof/Machine/ConfigCommands.lean ====
section
/-! DEFINITION. Commands of the configuration store (chapter 1): RESET, LOAD_END, the CONFIG requests, and the end of an
image write with the activation (R14). -/

namespace Sys2Proof.Machine

open Sys2Proof

/-- A command of the part never faults and is never refused: it answers a next state. -/
abbrev Step := Host.Outcome State Fault Refusal

/-! ### Reset and the start-up load -/

/-- 00_scope.md 3.6: the part reset. The image and the readings of the two feedback contacts are outside what a reset acts
on; the commands that wait and the model's draws are the model's own. -/
def State.resetPart (s : State) : State :=
  { State.resetWith s.cfg.image s.brake.sb.feedback s.brake.eb.feedback with pending := s.pending, draws := s.draws }

/-- RESET: power-on or the reset line. -/
def execReset (s : State) : Step := .next s.resetPart

/-- R161: the store takes its class map and begins a clear with a plan. -/
def State.startStore (s : State) (classes : List ClassRec) (plan : Nat) : State :=
  (s.modStore fun c => { c with classes := classes }).beginClear plan

/-- The class map of a store without CLASS records (R169). -/
def defaultClasses : List ClassRec := List.replicate 16 ⟨.standard, true⟩

/-- R16: the load ends LOADED with a description. -/
def State.loaded (s : State) (d : LineDesc) : State :=
  let s1 := s.modCfg fun c =>
    { c with
      commit := .idle, draft := d.toDraft, active := some d, sequence := c.image.sequence, loadResult := .loaded
      loadFailure := none }
  let s2 := (s1.enterTrip .stranded).configureGates d
  (((s2.recompute).startStore d.classes d.plan).syncCommands).wakeBus

/-- R16: the load ends with another result. -/
def State.notLoaded (s : State) (r : LoadResult) (f : Option (Nat × Nat × Nat)) : State :=
  let s1 := s.modCfg fun c =>
    { c with commit := .idle, draft := [], active := none, sequence := 0, loadResult := r, loadFailure := f }
  (((s1.report (.loadFault r f)).startStore defaultClasses 0).syncCommands).wakeBus

/-- R16: the end of the start-up load. -/
def State.endLoad (s : State) : State :=
  match loadImage s.cfg.image with
  | (.loaded, _) => s.loaded s.cfg.image.contents.complete
  | (r, f) => s.notLoaded r f

/-- LOAD_END; no load is in progress outside LOADING. -/
def execLoadEnd (s : State) : Step := .next (if s.cfg.commit = .loading then s.figuresSettled.endLoad else s)

/-! ### The draft (R3 to R5) -/

/-- R3: every field belongs to the kind, lies in its arrival range, and stands once. -/
def writable (k : Kind) (fs : List (Nat × Nat)) : Bool :=
  decide (fs.map (·.1)).Nodup && fs.all fun f => ((k.spec? f.1).map fun sp => sp.admits f.2).getD false

/-- R3, R4: CONFIG WRITE, with the remove flag clear or set. -/
def configWriteOwner (a : ConfigWriteArgs) (s : State) : Ruling :=
  if s.cfg.commit ≠ .idle then .refuse .busy
  else
    match Kind.ofCode a.kind with
    | none => .refuse .range
    | some k =>
      if !k.hasIndex a.index || decide (1 < a.remove) then .refuse .range
      else if a.remove = 1 then
        firstRow
          [(!a.fields.isEmpty, .refuse .range),
           (!s.cfg.draft.has k a.index, .refuse .absent)]
          (.accept fun t => t.modCfg fun c => { c with draft := c.draft.remove k a.index })
      else if writable k a.fields then
        .accept fun t => t.modCfg fun c => { c with draft := c.draft.write k a.index a.fields }
      else .refuse .range

/-- The CONFIG WRITE frame taken. -/
def State.configWrite (seq : Byte) (p : List Byte) (s : State) : State := request seq 0x01#8 (writePayload p) configWriteOwner s

/-- CONFIG WRITE with the remove flag clear. -/
def execConfigWrite (seq : Byte) (p : List Byte) (s : State) : Step := .next (s.configWrite seq p)

/-- CONFIG WRITE with the remove flag set. -/
def execConfigRemove (seq : Byte) (p : List Byte) (s : State) : Step := .next (s.configWrite seq p)

/-- R5: the reply of a record read: each field of the kind, present with its value or absent. -/
def readBody (k : Kind) (fs : List (Nat × Nat)) : ReplyBody :=
  .record (k.specs.map fun f => (f.number, fs.lookup f.number))

/-- R5: the record read from a draft, or from an active configuration as a draft that is its copy. -/
def readFrom (d : Draft) (k : Kind) (i : Nat) : Ruling :=
  match d.fields? k i with
  | none => .refuse .absent
  | some fs => ⟨some (readBody k fs), id⟩

/-- R5: CONFIG READ. -/
def configReadOwner (a : Byte × Byte × Byte) (s : State) : Ruling :=
  if s.cfg.commit ≠ .idle then .refuse .busy
  else
    match Kind.ofCode a.2.1.toNat with
    | none => .refuse .range
    | some k =>
      if decide (1 < a.1.toNat) || !k.hasIndex a.2.2.toNat then .refuse .range
      else if a.1.toNat = 0 then readFrom s.cfg.draft k a.2.2.toNat
      else
        match s.cfg.active with
        | none => .refuse .state
        | some d => readFrom d.toDraft k a.2.2.toNat

/-- The CONFIG READ frame taken. -/
def State.configRead (seq : Byte) (p : List Byte) (s : State) : State := request seq 0x02#8 (readPayload p) configReadOwner s

/-- CONFIG READ. -/
def execConfigRead (seq : Byte) (p : List Byte) (s : State) : Step := .next (s.configRead seq p)

/-! ### The commit (R6 to R13) -/

/-- R6: a boarding window of either car is OPEN or CLOSING. -/
def State.windowBusy (s : State) : Bool := (s.window .a).state != .shut || (s.window .b).state != .shut

/-- R6: PARKED, STRANDED or UNCONFIGURED. -/
def TripState.atRest : TripState → Bool
  | .parked _ | .stranded | .unconfigured => true
  | _ => false

/-- R6, R11, R13: an accepted commit: WRITING, the format marker destroyed, the reply held. -/
def ConfigStore.beginWrite (seq : Byte) (c : ConfigStore) : ConfigStore :=
  { c with commit := .writing, image := { c.image with marker := false }, held := some seq }

/-- R6, R7: CONFIG COMMIT, with the sequence byte of its frame. -/
def configCommitOwner (seq : Byte) (_ : Unit) (s : State) : Ruling :=
  firstRow
    [(s.cfg.commit != .idle, .refuse .busy),
     (s.store.state == .clearing, .refuse .busy),
     (!s.trip.state.atRest, .refuse .state),
     (s.brake.sb.command == .lifted && s.brake.eb.command == .lifted, .refuse .state),
     (s.windowBusy, .refuse .state),
     (!s.board.grants.isEmpty, .refuse .state)]
    (match validate s.cfg.draft with
      | some f => ⟨some (.invalid f.1 f.2.1 f.2.2), id⟩
      | none => ⟨none, fun t => t.modCfg fun c => c.beginWrite seq⟩)

/-- The CONFIG COMMIT frame taken. -/
def State.configCommit (seq : Byte) (p : List Byte) (s : State) : State :=
  request seq 0x03#8 (noPayload p) (configCommitOwner seq) s

/-- CONFIG COMMIT. -/
def execConfigCommit (seq : Byte) (p : List Byte) (s : State) : Step := .next (s.configCommit seq p)

/-! ### Activation (R14) -/

/-- R14: the position monitor takes a new description. -/
def State.activatePosition (s : State) (old : Option LineDesc) (new : LineDesc) : State :=
  let s0 := s.modPos fun m => m.keepWindows old
  if new.scaleChanged old then
    let s1 := s0.modPos fun m => m.unreference new
    if s.pos.pos = .unreferenced then s1
    else s1.positionReport true false false false none (s1.pos.p.position new.line.countsP)
      (s1.pos.q.position new.line.countsQ)
  else s0

/-- R14: the at-stop test on the channel positions of the latest view against the new stop table. -/
def State.activationStop (s : State) (new : LineDesc) : Option Nat :=
  new.atStop s.pos.pos s.pos.view.xP s.pos.view.xQ

/-- R14: PARKED at stop k if the position is CONFIRMED and at stop k, else STRANDED. -/
def State.activationTrip (s : State) (new : LineDesc) : TripState :=
  match s.pos.pos, s.activationStop new with
  | .confirmed, some k => .parked k
  | _, _ => .stranded

/-- R14, R120: the authority conditions of a car as an activation tests them: the side of its authority is that of the
platform that stop k names for it. -/
def State.activationHolds (s : State) (new : LineDesc) (c : Car) : Bool :=
  match s.trip.state with
  | .parked k =>
    s.pos.view.settled && s.brake.sb.command == .applied && s.brake.sb.feedback == .applied && (s.link.get c).live &&
      ((new.stopPlatform? k c).bind new.platform?).map (·.side) == (s.door.get c).authority
  | _ => false

/-- R14, R121: authority that fails the tests is withdrawn with reason ACTIVATION. -/
def State.activationDoor (s : State) (new : LineDesc) (c : Car) : State :=
  if (s.door.get c).authority.isSome && !s.activationHolds new c then s.withdraw c .activation else s

/-- R14: the trip controller and the door release controller take a new description. The TRIP report CONFIG is sent at every
activation, also where the trip state after it is the one before: R88 has one report for each change, and CONFIG where an
activation sets the state, and does not say which holds then (DESIGN CHOICE, assumption log 57). -/
def State.activateTrip (s : State) (new : LineDesc) : State :=
  let st := s.activationTrip new
  let s1 := (s.enterTrip st).setArrivals false
  let s2 := ((s1.activationDoor new .a).activationDoor new .b)
  (((s2.violationTest .a).violationTest .b).syncCommands).tripReport s.trip.state st .config

/-- R14: the carry-over of a platform index is kept where its PLATFORM record is present and unchanged. -/
def keptCarry (old : Option LineDesc) (new : LineDesc) (p carry : Nat) : Nat :=
  match new.platform? p, old.bind fun d => d.platform? p with
  | some a, some b => if a = b then carry else 0
  | _, _ => 0

/-- R14: the boarding controller takes a new description. -/
def State.activateBoarding (s : State) (old : Option LineDesc) (new : LineDesc) : State :=
  s.modBoard fun b => { b with carry := b.carry.zipIdx.map fun p => keptCarry old new p.2 p.1 }

/-- R14, R15, R169: the credential store takes a new description; it clears where the STORE plan changed. -/
def State.activateStore (s : State) (old : Option LineDesc) (new : LineDesc) : State :=
  if old.map (·.plan) = some new.plan then s.modStore fun c => { c with classes := new.classes }
  else s.startStore new.classes new.plan

/-- R14: the blocks take the newly active configuration, the position monitor first. -/
def State.activate (s : State) (old : Option LineDesc) (new : LineDesc) : State :=
  let s1 := ((s.activatePosition old new).activateTrip new).recompute
  (((s1.activateBoarding old new).configureGates new).activateStore old new)

/-- R11: the image sequence that the write stores. -/
def ConfigStore.nextSequence (c : ConfigStore) : Nat :=
  match c.active with
  | none => 1
  | some _ => satAdd 65535 c.sequence 1

/-- R11, R13: the configuration store at the end of a write: the image stands, the sequence advances, the draft is active
and complete. -/
def ConfigStore.endWrite (new : LineDesc) (c : ConfigStore) : ConfigStore :=
  { c with
    sequence := c.nextSequence, image := writtenImage new c.nextSequence, active := some new, draft := new.toDraft }

/-- R11: the held reply OK is sent. -/
def State.releaseReply (s : State) : State :=
  match s.cfg.held with
  | none => s
  | some seq => (s.modCfg fun c => { c with held := none }).reply ⟨replyType 0x03#8, seq, .plain .ok⟩

/-- R11, R134: the end of the image write. -/
def State.endWrite (s : State) : State :=
  let new := s.cfg.draft.complete
  let s1 := (s.modCfg fun c => c.endWrite new).activate s.cfg.active new
  let s2 := (s1.modCfg fun c => { c with commit := .idle }).releaseReply
  (((s2.deferredOpen .a).deferredOpen .b).wakeBus).settle

/-- IMAGE_WRITE_END; no write is in progress outside WRITING. -/
def execImageWriteEnd (s : State) : Step := .next (if s.cfg.commit = .writing then s.figuresSettled.endWrite else s)

end Sys2Proof.Machine
end

