-- ==== Sys2Proof/Machine/TripCommands.lean ====
section
/-! DEFINITION. Commands of the trip controller (chapter 5): DISPATCH, STOP, RECOVER, REFERENCE RUN, SET CLASS, the expiry
of T_prep and T_lift, and the drive status record. -/

namespace Sys2Proof.Machine

open Sys2Proof

/-! ### Departures (R67, R70) -/

/-- R67: PREPARING, LIFTING, RUNNING, CREEPING or SETTLING. -/
def TripState.underWay : TripState → Bool
  | .preparing | .lifting | .running | .creeping | .settling => true
  | _ => false

/-- The position of a stop. -/
def LineDesc.stopX (d : LineDesc) (k : Nat) : Nat := ((d.stops[k]?).map (·.x)).getD 0

/-- The number of stops of the active configuration. -/
def State.stopCount (s : State) : Nat := ((s.cfg.active).map fun d => d.stops.length).getD 0

/-- R67: the direction from stop `k` to a destination. -/
def State.dirTo (s : State) (k dest : Nat) : Dir :=
  if ((s.cfg.active).map fun d => decide (d.stopX k < d.stopX dest)) = some true then .up else .down

/-- R67: DISPATCH. -/
def dispatchOwner (a : Byte × Byte) (s : State) : Ruling :=
  let dest := a.1.toNat
  let origin := s.trip.state.stop?
  firstRow
    [(s.cfg.commit == .writing, .refuse .busy),
     (s.trip.state == .unconfigured, .refuse .state),
     (s.trip.state.underWay, .refuse .busy),
     (s.trip.state == .stranded || s.trip.state == .intervened, .refuse .state),
     (s.brake.latch, .refuse .state),
     (s.pos.view.pos != .confirmed, .refuse .state),
     ((classOfCode a.2).isNone, .refuse .range),
     (decide (s.stopCount ≤ dest), .refuse .range),
     (origin == some dest, .refuse .range)]
    (.accept fun t =>
      (t.depart .normal origin (some dest) (s.dirTo (origin.getD 0) dest) ((classOfCode a.2).getD .normal)).settle)

/-- The DISPATCH frame taken. -/
def State.dispatch (seq : Byte) (p : List Byte) (s : State) : State := request seq 0x10#8 (twoPayload p) dispatchOwner s

/-- DISPATCH. -/
def execDispatch (seq : Byte) (p : List Byte) (s : State) : Step := .next (s.dispatch seq p)

/-- R70: the stop ahead of a direction. -/
def stopAhead (d : LineDesc) (dir : Dir) (xP : Int) : Option Nat :=
  match dir with
  | .up => (List.range d.stops.length).find? fun k => decide (xP + d.line.stopWindow < (d.stopX k : Int))
  | .down => ((List.range d.stops.length).reverse).find? fun k => decide ((d.stopX k : Int) < xP - d.line.stopWindow)

/-- R70: the neighbouring stop behind the destination. -/
def stopBehind (d : LineDesc) (dir : Dir) (dest : Nat) : Option Nat :=
  match dir with
  | .up => if dest = 0 then none else some (dest - 1)
  | .down => if dest + 1 < d.stops.length then some (dest + 1) else none

/-- R70: the rows that RECOVER and REFERENCE RUN share, up to the position row. -/
def departureRows (s : State) (positionFails : Bool) : List (Bool × Ruling) :=
  [(s.cfg.commit == .writing, .refuse .busy),
   (s.trip.state == .unconfigured, .refuse .state),
   (s.trip.state.underWay, .refuse .busy),
   (s.trip.state.isParked || s.trip.state == .intervened, .refuse .state),
   (s.brake.latch, .refuse .state),
   (positionFails, .refuse .state)]

/-- R70: RECOVER. -/
def recoverOwner (a : Byte) (s : State) : Ruling :=
  firstRow (departureRows s (s.pos.view.pos != .confirmed))
    (match dirOfCode a with
      | none => .refuse .range
      | some dir =>
        match s.cfg.active with
        | none => .refuse .range
        | some d =>
          match stopAhead d dir s.pos.view.xP with
          | none => .refuse .range
          | some k => .accept fun t => (t.depart .recovery (stopBehind d dir k) (some k) dir .inspection).settle)

/-- The RECOVER frame taken. -/
def State.recover (seq : Byte) (p : List Byte) (s : State) : State := request seq 0x12#8 (onePayload p) recoverOwner s

/-- RECOVER. -/
def execRecover (seq : Byte) (p : List Byte) (s : State) : Step := .next (s.recover seq p)

/-- R70: REFERENCE RUN. -/
def referenceRunOwner (a : Byte) (s : State) : Ruling :=
  firstRow (departureRows s (s.pos.view.pos == .confirmed))
    (match dirOfCode a with
      | none => .refuse .range
      | some dir => .accept fun t => (t.depart .reference none none dir .inspection).settle)

/-- The REFERENCE RUN frame taken. -/
def State.referenceRun (seq : Byte) (p : List Byte) (s : State) : State :=
  request seq 0x13#8 (onePayload p) referenceRunOwner s

/-- REFERENCE RUN. -/
def execReferenceRun (seq : Byte) (p : List Byte) (s : State) : Step := .next (s.referenceRun seq p)

/-! ### STOP and SET CLASS (R78, R87) -/

/-- R78: STOP is accepted with OK in every trip state. -/
def stopOwner (_ : Unit) (_ : State) : Ruling := .accept fun t => (t.stopTrip).settle

/-- The STOP frame taken. -/
def State.stopRequest (seq : Byte) (p : List Byte) (s : State) : State := request seq 0x11#8 (noPayload p) stopOwner s

/-- STOP. -/
def execStop (seq : Byte) (p : List Byte) (s : State) : Step := .next (s.stopRequest seq p)

/-- R87: the place of a class in the ranking, from the highest. -/
def classRank : SpeedClass → Nat
  | .normal => 0
  | .reduced => 1
  | .inspection => 2

/-- R87: PREPARING, LIFTING, RUNNING or CREEPING. -/
def TripState.classChanges : TripState → Bool
  | .preparing | .lifting | .running | .creeping => true
  | _ => false

/-- R87, R57: the record's class is lowered; from LIFTING on, the profile cap falls and the envelope is told. -/
def State.lowerClass (s : State) (c : SpeedClass) : State :=
  let s1 := s.modRecord fun r => { r with cls := c }
  match s.trip.state, s.cfg.active with
  | .preparing, _ => s1
  | _, none => s1
  | _, some d =>
    (s1.modRecord fun r => { r with profileCap := r.profileCap.map fun p => min p (d.classCap c) }).classNotice
      (d.classCap c)

/-- R87: SET CLASS. -/
def setClassOwner (a : Byte) (s : State) : Ruling :=
  if s.trip.state = .unconfigured then .refuse .state
  else
    match classOfCode a, s.trip.record with
    | none, _ => .refuse .range
    | some _, none => .refuse .state
    | some c, some r =>
      firstRow
        [(!s.trip.state.classChanges, .refuse .state),
         (decide (classRank c < classRank r.cls), .refuse .state),
         (c == r.cls, .noChange)]
        (.done fun t => t.lowerClass c)

/-- The SET CLASS frame taken. -/
def State.setClass (seq : Byte) (p : List Byte) (s : State) : State := request seq 0x14#8 (onePayload p) setClassOwner s

/-- SET CLASS. -/
def execSetClass (seq : Byte) (p : List Byte) (s : State) : Step := .next (s.setClass seq p)

/-! ### Timers and the drive line (R71 to R73, R80) -/

/-- T_PREP_EXPIRY; a timer that does not run does not expire. -/
def execTPrepExpiry (s : State) : Step :=
  .next (if s.trip.tPrep.isSome then (s.figuresSettled.abandon .timeout).settle else s)

/-- T_LIFT_EXPIRY; a timer that does not run does not expire. -/
def execTLiftExpiry (s : State) : Step :=
  .next (if s.trip.tLift.isSome then (s.figuresSettled.failLift).settle else s)

/-- R80: the drive reading as the last valid status. -/
def lastOf : DriveReading → DriveLast
  | .ready => .ready
  | .running => .running
  | .fault => .fault

/-- R80: a valid drive status record replaces the last status, the fault code and the torque. -/
def TripCtl.heard (t : TripCtl) (r : DriveStatus) : TripCtl :=
  { t with
    driveLast := lastOf r.status, driveFaultCode := r.faultCode.toNat, driveTorque := r.torque, driveHeard := true }

/-- R80, R72: a valid drive status record taken: DRIVE_FAULT where FAULT is new, in every trip state but UNCONFIGURED; a
status RUNNING in the drive phase asks for the lift of SB. -/
def State.driveRecord (s : State) (r : DriveStatus) : State :=
  let s1 := s.modTrip fun t => t.heard r
  let s2 := if r.status = .fault ∧ s.trip.driveLast ≠ .fault ∧ s.trip.state ≠ .unconfigured then s1.raise .driveFault
    else s1
  (if r.status = .running then s2.enterBrakePhase else s2).settle

/-- R181: a record taken whole; the link's assembler is back in HUNT. -/
def State.recordTaken (s : State) (w : PartnerLink) : State :=
  s.figuresSettled.modWire w fun l => { l with rx := Assembler.idle }

/-- DRIVE_STATUS. -/
def execDriveStatus (r : DriveStatus) (s : State) : Step := .next ((s.recordTaken .driveLine).driveRecord r)

end Sys2Proof.Machine
end

