-- ==== Sys2Proof/Machine/BrakeCommands.lean ====
section
/-! DEFINITION. Commands of the brake supervisor (chapter 6): BRAKE RESET, FAULTS READ, FAULTS CLEAR, the feedback contacts
and its timers. -/

namespace Sys2Proof.Machine

open Sys2Proof

/-- One of the two brakes. -/
def BrakeSup.line (b : BrakeSup) : BrakeId → BrakeLine
  | .sb => b.sb
  | .eb => b.eb

/-- One brake changed. -/
def BrakeSup.modLine (b : BrakeSup) (i : BrakeId) (f : BrakeLine → BrakeLine) : BrakeSup :=
  match i with
  | .sb => { b with sb := f b.sb }
  | .eb => { b with eb := f b.eb }

/-! ### BRAKE RESET (R100, R101) -/

/-- R101: an EB lift in progress ends where the EB feedback reads LIFTED. -/
def State.ebLiftTest (s : State) : State :=
  if s.brake.ebLift.isSome && s.brake.eb.feedback == .lifted then
    (s.modBrake fun b => { b with ebLift := none }).interventionReport .ebLifted none
  else s

/-- R100: the supervisor after an accepted BRAKE RESET. -/
def BrakeSup.reset_ (b : BrakeSup) (liftMs : Nat) : BrakeSup :=
  { b with
    state := .normal
    escalation := none
    lastLevel := .none
    lastFlag := false
    eb := b.eb.lift
    ebLift := some liftMs }

/-- R100: the effect of an accepted BRAKE RESET. Where the EB contact reads LIFTED already, the lift that step 4 begins completes
at once (R101); no rule orders its report EB_LIFTED and the report RESET of step 5, and the model sends RESET first (DESIGN
CHOICE, assumption log 58). -/
def State.resetBrakes (s : State) : State :=
  (((s.modBrake fun b => b.reset_ s.liftWait).interventionReport .reset none).ebLiftTest).syncCommands

/-- R100: BRAKE RESET. -/
def brakeResetOwner (_ : Unit) (s : State) : Ruling :=
  firstRow
    [(s.unconfigured, .refuse .state),
     (s.brake.ebLift.isSome, .refuse .busy),
     (!(s.trip.state.isParked || s.trip.state == .stranded), .refuse .state),
     (!s.pos.view.settled, .refuse .state),
     (s.trip.driveLast == .fault, .refuse .state),
     (s.trip.driveLostNow, .refuse .state),
     (!(s.link.a.live && s.link.b.live), .refuse .state),
     (s.brake.sb.stuck || s.brake.eb.stuck, .refuse .state),
     (!s.brake.latch && s.brake.eb.command == .lifted, .noChange)]
    (.done State.resetBrakes)

/-- The BRAKE RESET frame taken. -/
def State.brakeReset (seq : Byte) (p : List Byte) (s : State) : State := request seq 0x18#8 (noPayload p) brakeResetOwner s

/-- BRAKE RESET. -/
def execBrakeReset (seq : Byte) (p : List Byte) (s : State) : Step := .next (s.brakeReset seq p)

/-! ### The fault requests (R105, R106) -/

/-- R105: the reply of FAULTS READ. -/
def BrakeSup.faultsBody (b : BrakeSup) : ReplyBody := .faults b.captures b.overflow b.interventions b.state b.latch

/-- R105: FAULTS READ; the counter is set to 0 as the reply is built. -/
def faultsReadOwner (_ : Unit) (s : State) : Ruling :=
  ⟨some s.brake.faultsBody, fun t => t.modBrake fun b => { b with interventions := 0 }⟩

/-- The FAULTS READ frame taken. -/
def State.faultsRead (seq : Byte) (p : List Byte) (s : State) : State := request seq 0x19#8 (noPayload p) faultsReadOwner s

/-- FAULTS READ. -/
def execFaultsRead (seq : Byte) (p : List Byte) (s : State) : Step := .next (s.faultsRead seq p)

/-- R106: FAULTS CLEAR. -/
def faultsClearOwner (_ : Unit) (_ : State) : Ruling :=
  .accept fun t => t.modBrake fun b => { b with captures := [], overflow := false }

/-- The FAULTS CLEAR frame taken. -/
def State.faultsClear (seq : Byte) (p : List Byte) (s : State) : State :=
  request seq 0x1A#8 (noPayload p) faultsClearOwner s

/-- FAULTS CLEAR. -/
def execFaultsClear (seq : Byte) (p : List Byte) (s : State) : Step := .next (s.faultsClear seq p)

/-! ### Feedback contacts and timers (R90, R99, R101) -/

/-- R90: a feedback contact changes: the apply supervision, the EB lift (R101), the lift of SB (R73), and the authority
conditions that read the SB feedback (R121, R122). -/
def State.feedback (s : State) (i : BrakeId) (reading : Contact) : State :=
  let s1 := s.modBrake fun b => b.modLine i fun l => l.read reading
  match i with
  | .eb => s1.ebLiftTest
  | .sb => ((if reading = .lifted then s1.lifted else s1).authorityTests).settle

/-- BRAKE_FEEDBACK; a contact that reads as before is no change. -/
def execBrakeFeedback (i : BrakeId) (reading : Contact) (s : State) : Step :=
  .next (if (s.brake.line i).feedback = reading then s else s.figuresSettled.feedback i reading)

/-- R90: the stuck cause of a brake. -/
def stuckCause : BrakeId → Cause
  | .sb => .sbStuck
  | .eb => .ebStuck

/-- R90: an apply timer expires. -/
def State.stuck (s : State) (i : BrakeId) : State :=
  ((s.modBrake fun b => b.modLine i fun l => { l with applyTimer := none, stuck := true }).takeCause (stuckCause i)).settle

/-- APPLY_TIMER_EXPIRY; a timer that does not run does not expire. -/
def execApplyTimerExpiry (i : BrakeId) (s : State) : Step :=
  .next (if (s.brake.line i).applyTimer.isSome then s.figuresSettled.stuck i else s)

/-- ESCALATION_TIMER_EXPIRY; a timer that does not run does not expire. -/
def execEscalationTimerExpiry (s : State) : Step :=
  .next
    (if s.brake.escalation.isSome then
      ((s.figuresSettled.modBrake fun b => { b with escalation := none }).escalationCheck).settle
    else s)

/-- EB_LIFT_TIMEOUT; a timer that does not run does not expire. -/
def execEbLiftTimeout (s : State) : Step :=
  .next (if s.brake.ebLift.isSome then ((s.figuresSettled.modBrake BrakeSup.applyEb).takeCause .ebStuck).settle else s)

end Sys2Proof.Machine
end

