-- ==== Sys2Proof/Machine/PositionCommands.lean ====
section
/-! DEFINITION. Commands of the position monitor (chapter 2): the encoder pulses, the 10 ms sample with the work of every
block on its view, and the mark event. -/

namespace Sys2Proof.Machine

open Sys2Proof

/-- R18: quadrature pulses at a channel. -/
def Monitor.pulse (m : Monitor) (channel : EncoderId) (delta : Int) : Monitor :=
  match channel with
  | .p => { m with p := m.p.pulse delta }
  | .q => { m with q := m.q.pulse delta }

/-- ENCODER_COUNT. -/
def execEncoderCount (channel : EncoderId) (delta : Int) (s : State) : Step :=
  .next (s.figuresSettled.modPos fun m => m.pulse channel delta)

/-! ### The sample (R19) -/

/-- R33: the direction of a trip in RUNNING or CREEPING. -/
def State.runningDir (s : State) : Option Dir := if s.trip.state.hauling then s.trip.record.map (·.dir) else none

/-- R19, R35: the monitor completes a sample: its readings, the causes it raises, and its POSITION report. -/
def State.monitorSample (s : State) (d : LineDesc) : State :=
  let out := s.pos.sample d (s.brake.sb.command == .applied) s.runningDir
  let s1 := (s.modPos fun _ => out.monitor).raiseAll out.causes
  if out.changed || out.missed.isSome then
    s1.positionReport out.changed false false out.missed.isSome out.missed out.monitor.view.xP out.monitor.view.xQ
  else s1

/-- What acts on a published view beside the envelope calculator: the door release controller (R121, R130), the brake
supervisor taking the raised causes (R96) and the envelope result (R95), and the trip controller (5.4). -/
def viewTask : Nat → State → State
  | 0 => State.doorTests
  | 1 => State.settle
  | 2 => State.brakeResult
  | _ => State.tripView

/-- The tasks of a list done one after another, each the one that stands at the drawn place of those left. -/
def runTasks : List Nat → List Nat → State → State
  | [], _, s => s
  | k :: ks, left, s => runTasks ks (left.eraseIdx k) (viewTask (left.getD k 0) s)

/-- R51: the envelope calculator takes the view of a sample before or after the changes of trip state that the causes raised
by the same sample bring about. -/
def State.calculate (s : State) (causesFirst : Bool) : State :=
  if causesFirst then (s.settle).envelopeView else s.envelopeView

/-- R19: one sample with the order of the blocks given: no order stands among them (R19, R51, 00_scope.md 3.7), but each reads
the envelope result of the same view (R75, R95). R51 lets a change of trip state that falls with a view be taken before or
after the view; of the changes that the door tests (R130) and the trip controller's own work (R77, R85) bring about on that
view, the model has the calculator take the view first (DESIGN CHOICE, assumption log 52). -/
def State.sampleWith (s : State) (d : LineDesc) (causesFirst : Bool) (order : List Nat) : State :=
  (runTasks order [0, 1, 2, 3] (((s.figuresSettled).monitorSample d).calculate causesFirst)).settle

/-- The free order of the four tasks (DESIGN CHOICE, assumption log 2). -/
def State.drawOrder (s : State) : List Nat :=
  [Config.pick s.draws % 4, Config.pick (s.draws + 1) % 3, Config.pick (s.draws + 2) % 2, 0]

/-- The free choice whether the causes of a sample are taken before its view is (DESIGN CHOICE, assumption log 2). -/
def State.drawCauses (s : State) : Bool := Config.pick (s.draws + 3) % 2 == 1

/-- R19: one sample. -/
def State.sample (s : State) (d : LineDesc) : State :=
  { s with draws := s.draws + 4 }.sampleWith d s.drawCauses s.drawOrder

/-- SAMPLE: the sample timer runs while an active configuration exists and no load is in progress (R19). -/
def execSample (s : State) : Step :=
  .next
    (match s.cfg.active with
      | none => s
      | some d => if s.cfg.commit = .loading then s else s.sample d)

/-! ### The mark event (R23) -/

/-- R24: the trip kind is REFERENCE. -/
def State.refTrip (s : State) : Bool := (s.trip.record.map (·.kind)) == some .reference

/-- R23: the record-only cause of an outcome. -/
def MarkOutcome.cause : MarkOutcome → Option Cause
  | .correct => none
  | .mismatch => some .markMismatch
  | .unexpected => some .unexpectedMark

/-- R23, R35, R86: a mark event: the monitor, the cause, the POSITION report, and the notice to a REFERENCE trip. -/
def State.markEvent (s : State) (d : LineDesc) (n : Nat) : State :=
  let out := s.pos.mark d n s.refTrip
  let s1 := (s.modPos fun _ => out.monitor).raiseAll out.outcome.cause.toList
  let s2 :=
    if out.changed || out.outcome != .correct then
      s1.positionReport out.changed (out.outcome == .mismatch) (out.outcome == .unexpected) false (some n)
        (out.monitor.p.position d.line.countsP) (out.monitor.q.position d.line.countsQ)
    else s1
  (if out.referenced then s2.markFound else s2).settle

/-- MARK_EVENT; ignored and not counted while the part is UNCONFIGURED (R17). While the commit state is LOADING there is no
active configuration to know a mark by, and the event is ignored and not counted too (DESIGN CHOICE, assumption log 43). -/
def execMarkEvent (n : Nat) (s : State) : Step :=
  .next
    (match s.cfg.active with
      | none => s
      | some d => s.figuresSettled.markEvent d n)

end Sys2Proof.Machine
end

