-- ==== Sys2Proof/Machine/CarCommands.lean ====
section
/-! DEFINITION. Commands of the car link controllers (chapter 7): CAR FLAGS, SET ONBOARD, the car status record, and the
liveness, car command and weigh timers. -/

namespace Sys2Proof.Machine

open Sys2Proof

/-- R111: CAR FLAGS. A flags byte with an unnamed bit set is out of range (DESIGN CHOICE, assumption log 11). -/
def carFlagsOwner (a : Byte × Byte) (_ : State) : Ruling :=
  match carOfCode a.1, hostFlagsOfByte a.2 with
  | some c, some f =>
    .accept fun t => (t.modLink c fun l => { l with flag1 := f.1, flag2 := f.2 }).syncCommand c
  | _, _ => .refuse .range

/-- The CAR FLAGS frame taken. -/
def State.carFlags (seq : Byte) (p : List Byte) (s : State) : State := request seq 0x24#8 (twoPayload p) carFlagsOwner s

/-- CAR FLAGS. -/
def execCarFlags (seq : Byte) (p : List Byte) (s : State) : Step := .next (s.carFlags seq p)

/-- R115: SET ONBOARD. -/
def setOnboardOwner (a : Byte × Nat) (_ : State) : Ruling :=
  match carOfCode a.1 with
  | none => .refuse .range
  | some c =>
    if 999 < a.2 then .refuse .range
    else .accept fun t => (t.modLink c fun l => { l with onboard := a.2 }).recompute

/-- The SET ONBOARD frame taken. -/
def State.setOnboard (seq : Byte) (p : List Byte) (s : State) : State :=
  request seq 0x25#8 (onboardPayload p) setOnboardOwner s

/-- SET ONBOARD. -/
def execSetOnboard (seq : Byte) (p : List Byte) (s : State) : Step := .next (s.setOnboard seq p)

/-! ### The car status record (R110), step by step -/

/-- R112: the liveness timer, in ms. -/
def livenessMs : Nat := 300

/-- R112: a valid record makes a LOST link LIVE, or restarts the timer of a LIVE one. On the change the door release
controller sets the door state again, from the side reports it holds, tests the violations on them (R119, R130; DEDUCED,
assumption log 29), and tests the authority, and the brake supervisor tests its permission (R121, R93). -/
def State.linkStep (s : State) (c : Car) : State :=
  let s1 := s.modLink c fun l => { l with live := true, liveness := some livenessMs }
  if (s.link.get c).live then s1 else (((s1.linkDoor c).doorReport c .linkLive).permissionTest).authorityTests

/-- R118: the taken tag compared with the command slot. -/
def State.tagStep (s : State) (c : Car) (tag : Nat) : State :=
  let s1 := s.modLink c fun l => { l with takenTag := some tag }
  if (s.link.get c).slot.isSome && (s.link.get c).tag == tag then s1.emptySlot c else s1

/-- R115: the onboard count after deltas. -/
def countOnboard (onboard inDelta outDelta : Nat) : Nat :=
  (clampInt ((onboard : Int) + inDelta - outDelta) 0 999).toNat

/-- R115: the onboard change of a record. -/
def State.boardingChange (s : State) (c : Car) (i o : Nat) : State :=
  (s.modLink c fun l => { l with onboard := countOnboard l.onboard i o }).recompute

/-- R43: the two changes of a record whose in-delta lowers pending reach the estimator as two events, either first (a free
choice, DESIGN CHOICE, assumption log 2), and the figures between the two are the passing figures. -/
def State.deltaStep (s : State) (c : Car) (i o : Nat) (onboardFirst : Bool) : State :=
  let s1 := if onboardFirst then s.boardingChange c i o else s.inDelta c i
  let s2 := s1.modLoad fun e => { e with passing := some e.figures }
  if onboardFirst then s2.inDelta c i else s2.boardingChange c i o

/-- R114, R115, R142: the counters of a record. With the counter fault set they are still held as the counters that STATUS
shows (R131; DESIGN CHOICE, assumption log 50). -/
def State.counterStep (s : State) (c : Car) (r : CarStatus) : State :=
  let here := (r.inCounter, r.outCounter)
  let s1 := s.modLink c fun l => { l with counters := some here }
  if r.faults.counter then s1.modLink c fun l => { l with baselines := none }
  else
    let s2 := s1.modLink c fun l => { l with baselines := some here }
    match (s.link.get c).baselines with
    | none => s2
    | some b =>
      let i := (r.inCounter - b.1).toNat
      let o := (r.outCounter - b.2).toNat
      if i = 0 ∧ o = 0 then s2
      else if min i (windowCounts (s.window c)).1 = 0 then s2.boardingChange c i o
      else (s2.afterPick 2).deltaStep c i o (s2.pickOf 2 == 0)

/-- R39, R110: the weigh value of a record. -/
def State.weighStep (s : State) (c : Car) (w : Option (BitVec 16)) : State :=
  let v := w.map (·.toNat)
  ((s.modLink c fun l => { l with weigh := v }).countWeigh c v).recompute

/-- R116: the ATTENDANT report, the alarm event (R79), and the cleared HOLD flag (R69). Of a record that sets ALARM and clears
HOLD while step 3 waits, the alarm is taken first, which has no effect in PREPARING, and then step 3 (the spec gives no
order; DESIGN CHOICE, assumption log 42). -/
def State.attendantChange (s : State) (c : Car) (before after : Attendant) : State :=
  if before = after then s
  else
    let s1 := s.doorReport c (.attendant before)
    let s2 := if after.alarm && !before.alarm then s1.alarm else s1
    if before.hold && !after.hold then s2.holdRecheck else s2

/-- R116, R117: the attendant flags and the car fault flags of a record. -/
def State.flagStep (s : State) (c : Car) (a : Attendant) (f : CarFaults) : State :=
  let before := (s.link.get c).attendant
  let faults := (s.link.get c).faults
  let s1 := s.modLink c fun l => { l with attendant := a, faults := f }
  let s2 := if faults = f then s1 else s1.doorReport c .carFault
  s2.attendantChange c before a

/-- R110: a valid car status record, in its six steps. A record that changes the onboard count or the weigh value may also
bring on PREPARING step 3 or the entry to LIFTING, by clearing HOLD or by the last door LOCKED. R45 and R46 let the recomputation
or the step go first; the model recomputes first, in the order of the six steps (DESIGN CHOICE, assumption log 61). -/
def State.carRecord (s : State) (c : Car) (r : CarStatus) : State :=
  ((((((((s.figuresSettled).linkStep c).tagStep c r.tag.val).counterStep c r).weighStep c r.weigh).flagStep c r.attendant
    r.faults).doorReports c r.left r.right).settle)

/-- CAR_STATUS. -/
def execCarStatus (c : Car) (r : CarStatus) (s : State) : Step := .next ((s.recordTaken (carWire c)).carRecord c r)

/-! ### Timers (R111 to R113, R39) -/

/-- R113: the link controller's own state at entry to LOST. -/
def CarLink.lose (l : CarLink) : CarLink :=
  { l with
    live := false, liveness := none, slot := none, baselines := none, weigh := none, attendant := Attendant.clear
    faults := CarFaults.clear }

/-- R113: LIFTING, RUNNING or CREEPING. -/
def TripState.needsLinks : TripState → Bool
  | .lifting | .running | .creeping => true
  | _ => false

/-- R113: the link goes LOST, and the loss reaches the other blocks. The supervisor tests its permission before it takes
CAR_LINK_LOST_RUN (no order stands between the two, R93; DESIGN CHOICE, assumption log 49). -/
def State.loseLink (s : State) (c : Car) : State :=
  let s1 := s.modLink c CarLink.lose
  let s2 := if s.trip.state.needsLinks then s1.raise .carLinkLostRun else s1
  let s3 := (((s2.doorLost c).permissionTest).syncCommand c).recompute
  (((s3.doorReport c .linkLost).authorityTests).holdRecheck).settle

/-- LIVENESS_TIMER_EXPIRY; a timer that does not run does not expire. -/
def execLivenessTimerExpiry (c : Car) (s : State) : Step :=
  .next (if (s.link.get c).liveness.isSome then s.figuresSettled.loseLink c else s)

/-- CAR_COMMAND_TIMER: a car command record is sent every 100 ms (R111). -/
def execCarCommandTimer (c : Car) (s : State) : Step := .next (s.figuresSettled.sendCommand c)

/-- WEIGH_EXPIRY: the weigh value is 2,000 ms old (R39, R43). R39 makes the input of the estimator absent; the car link
controller holds the old value no longer either, and STATUS CAR shows it absent (DESIGN CHOICE, assumption log 43). -/
def execWeighExpiry (c : Car) (s : State) : Step := .next ((s.figuresSettled.modLink c fun l => { l with weigh := none }).recompute)

end Sys2Proof.Machine
end

