-- ==== Sys2Proof/Machine/DoorCommands.lean ====
section
/-! DEFINITION. Commands of the door release controller (chapter 7): DOOR RELEASE, DOOR OPEN, DOOR CLOSE, DOOR CANCEL and
the expiry of T_close. -/

namespace Sys2Proof.Machine

open Sys2Proof

/-- The door requests name a car, after their first row: the part UNCONFIGURED is refused STATE, a code other than A or B
RANGE. -/
def forCar (a : Byte) (s : State) (owner : Car → Ruling) : Ruling :=
  if s.unconfigured then .refuse .state
  else
    match carOfCode a with
    | none => .refuse .range
    | some c => owner c

/-- R123: DOOR RELEASE. -/
def doorReleaseOwner (a : Byte) (s : State) : Ruling :=
  forCar a s fun c =>
    if (s.door.get c).authority.isSome then .noChange
    else
      match s.trip.state.isParked, s.authoritySide c with
      | true, some side => .done fun t => (t.grant c side).settle
      | _, _ => .refuse .state

/-- The DOOR RELEASE frame taken. -/
def State.doorRelease (seq : Byte) (p : List Byte) (s : State) : State :=
  request seq 0x20#8 (onePayload p) doorReleaseOwner s

/-- DOOR RELEASE. -/
def execDoorRelease (seq : Byte) (p : List Byte) (s : State) : Step := .next (s.doorRelease seq p)

/-- R124: an OPEN command is placed; in HELD the hold ends and the state is derived again. -/
def State.openDoors (s : State) (c : Car) : State :=
  let s1 := s.placeCommand c .openDoors
  if (s.door.get c).state = .held then s1.endCycle c else s1

/-- R124: DOOR OPEN. -/
def doorOpenOwner (a : Byte) (s : State) : Ruling :=
  forCar a s fun c =>
    firstRow
      [(!s.trip.state.isParked, .refuse .state),
       (!(s.link.get c).live, .refuse .state),
       ((s.door.get c).authority.isNone, .refuse .state),
       ((s.link.get c).faults.doorDrive, .refuse .state),
       ((s.door.get c).state == .closing, .refuse .state),
       ((s.link.get c).slot.isSome, .refuse .busy)]
      (.accept fun t => (t.openDoors c).settle)

/-- The DOOR OPEN frame taken. -/
def State.doorOpen (seq : Byte) (p : List Byte) (s : State) : State := request seq 0x21#8 (onePayload p) doorOpenOwner s

/-- DOOR OPEN. -/
def execDoorOpen (seq : Byte) (p : List Byte) (s : State) : Step := .next (s.doorOpen seq p)

/-- R122, R125: an accepted DOOR CLOSE clears the car's arrival flag. -/
def State.clearArrival (s : State) (c : Car) : State := s.modDoor c fun d => { d with arrival := false }

/-- R125: an accepted DOOR CLOSE: the arrival flag is cleared; a RELEASED car loses its authority, any other starts a close
cycle. -/
def State.closeDoors (s : State) (c : Car) : State :=
  let s1 := s.clearArrival c
  if (s.door.get c).state = .released then s1.withdraw c .closed else s1.startCycle c

/-- R125: DOOR CLOSE. "OK, no change" is an acceptance too (R175), which clears the arrival flag. -/
def doorCloseOwner (a : Byte) (s : State) : Ruling :=
  forCar a s fun c =>
    firstRow
      [(!(s.trip.state.isParked || s.trip.state == .stranded), .refuse .state),
       ((s.door.get c).state == .unknown, .refuse .state),
       ((s.door.get c).state == .locked || (s.door.get c).state == .closing,
         ⟨some (.done true), fun t => t.clearArrival c⟩),
       ((s.link.get c).slot.isSome, .refuse .busy)]
      (.done fun t => (t.closeDoors c).settle)

/-- The DOOR CLOSE frame taken. -/
def State.doorClose (seq : Byte) (p : List Byte) (s : State) : State := request seq 0x22#8 (onePayload p) doorCloseOwner s

/-- DOOR CLOSE. -/
def execDoorClose (seq : Byte) (p : List Byte) (s : State) : Step := .next (s.doorClose seq p)

/-- R128: the slot is emptied with a record at once, and a close cycle or a hold ends. -/
def State.cancelDoors (s : State) (c : Car) : State :=
  ((s.modLink c fun l => { l with slot := none }).sendCommand c).endCycle c

/-- R128: DOOR CANCEL. -/
def doorCancelOwner (a : Byte) (s : State) : Ruling :=
  forCar a s fun c =>
    firstRow
      [(!(s.trip.state.isParked || s.trip.state == .stranded), .refuse .state),
       ((s.link.get c).slot.isNone && (s.door.get c).state != .closing && (s.door.get c).state != .held, .noChange)]
      (.done fun t => (t.cancelDoors c).settle)

/-- The DOOR CANCEL frame taken. -/
def State.doorCancel (seq : Byte) (p : List Byte) (s : State) : State :=
  request seq 0x23#8 (onePayload p) doorCancelOwner s

/-- DOOR CANCEL. -/
def execDoorCancel (seq : Byte) (p : List Byte) (s : State) : Step := .next (s.doorCancel seq p)

/-- R128: T_close runs out in phase CLOSE or REOPEN. -/
def DoorCtl.closeRuns (d : DoorCtl) : Bool := d.tClose.isSome && (d.cycle == some .close || d.cycle == some .reopen)

/-- T_CLOSE_EXPIRY; a timer that does not run does not expire. -/
def execTCloseExpiry (c : Car) (s : State) : Step :=
  .next (if (s.door.get c).closeRuns then (s.figuresSettled.enterHeld c .timeout).settle else s)

end Sys2Proof.Machine
end

