-- ==== Sys2Proof/Machine/BoardingCommands.lean ====
section
/-! DEFINITION. Commands of the boarding controller (chapter 8): WINDOW OPEN, WINDOW CLOSE, CARRY CLEAR, the credit request
and the passage timeout. -/

namespace Sys2Proof.Machine

open Sys2Proof

/-- R135: WINDOW OPEN. -/
def windowOpenOwner (a : Byte) (s : State) : Ruling :=
  if s.cfg.commit = .writing then .refuse .busy
  else forCar a s fun c =>
    firstRow
      [((s.window c).state == .opened, .noChange),
       ((s.window c).state == .closing, .refuse .busy),
       (s.trip.state == .preparing, .refuse .state),
       ((s.door.get c).state != .opened, .refuse .state)]
      (.done fun t => t.openWindow c)

/-- The WINDOW OPEN frame taken. -/
def State.windowOpen (seq : Byte) (p : List Byte) (s : State) : State := request seq 0x28#8 (onePayload p) windowOpenOwner s

/-- WINDOW OPEN. -/
def execWindowOpen (seq : Byte) (p : List Byte) (s : State) : Step := .next (s.windowOpen seq p)

/-- R140: WINDOW CLOSE. -/
def windowCloseOwner (a : Byte) (s : State) : Ruling :=
  forCar a s fun c =>
    if (s.window c).state = .opened then .done fun t => (t.closeWindow c .host).settle else .noChange

/-- The WINDOW CLOSE frame taken. -/
def State.windowClose (seq : Byte) (p : List Byte) (s : State) : State :=
  request seq 0x29#8 (onePayload p) windowCloseOwner s

/-- WINDOW CLOSE. -/
def execWindowClose (seq : Byte) (p : List Byte) (s : State) : Step := .next (s.windowClose seq p)

/-- The car of a PLATFORM record. -/
def State.platformCar (s : State) (p : Nat) : Car :=
  ((s.cfg.active.bind fun d => d.platform? p).map (·.car)).getD .a

/-- R141: the carry-over of a platform becomes 0, with its WINDOW report. -/
def State.clearCarry (s : State) (p : Nat) : State :=
  (s.modBoard fun b => { b with carry := b.carry.set p 0 }).windowReport (s.platformCar p)
    (.carryCleared (s.board.carry.getD p 0)) p

/-- R141: a window OPEN or CLOSING is bound to the platform. -/
def State.bound (s : State) (p : Nat) : Bool := (s.window .a).platform == some p || (s.window .b).platform == some p

/-- R141: CARRY CLEAR. -/
def carryClearOwner (a : Byte) (s : State) : Ruling :=
  let p := a.toNat
  firstRow
    [(s.unconfigured, .refuse .state),
     (decide (5 < p), .refuse .range),
     ((s.cfg.active.bind fun d => d.platform? p).isNone, .refuse .absent),
     (s.bound p, .refuse .state)]
    (.accept fun t => t.clearCarry p)

/-- The CARRY CLEAR frame taken. -/
def State.carryClear (seq : Byte) (p : List Byte) (s : State) : State := request seq 0x2A#8 (onePayload p) carryClearOwner s

/-- CARRY CLEAR. -/
def execCarryClear (seq : Byte) (p : List Byte) (s : State) : Step := .next (s.carryClear seq p)

/-- CREDIT_REQUEST: the boarding controller takes the credit request of the decision open at a gate. -/
def execCreditRequest (g : Nat) (s : State) : Step := .next (s.creditStep g)

/-- R147: a grant's timer expires. -/
def State.passageTimeout (s : State) (g : Nat) : State :=
  match s.grantAt g with
  | none => s
  | some x => (s.figuresSettled.endGrant x .release).settle

/-- PASSAGE_TIMEOUT; without a grant in flight at the gate no timer runs. -/
def execPassageTimeout (g : Nat) (s : State) : Step := .next (s.passageTimeout g)

end Sys2Proof.Machine
end

