-- ==== Sys2Proof/Machine/GateCommands.lean ====
section
/-! DEFINITION. Commands of the gate bus controller (chapter 9): GATE ENABLE, the gate answers, and the poll timeout. -/

namespace Sys2Proof.Machine

open Sys2Proof

/-- R156: the value of GATE ENABLE, OFF 0 and ON 1. -/
def onOffOfCode (b : Byte) : Option Bool :=
  match b.toNat with
  | 0 => some false
  | 1 => some true
  | _ => none

/-- R156: GATE ENABLE. -/
def gateEnableOwner (a : Byte × Byte) (s : State) : Ruling :=
  let g := a.1.toNat
  let disabled := (s.gate g).state == .disabled
  firstRow
    [(s.unconfigured, .refuse .state),
     (decide (g < 1) || decide (12 < g) || (onOffOfCode a.2).isNone, .refuse .range),
     ((s.cfg.active.bind fun d => d.gate? g).isNone, .refuse .absent),
     ((s.gate g).decision.isSome, .refuse .busy),
     (onOffOfCode a.2 == some (!disabled), .noChange)]
    (.done fun t => if disabled then t.enableGate g else (t.disableGate g).settle)

/-- The GATE ENABLE frame taken. -/
def State.gateEnable (seq : Byte) (p : List Byte) (s : State) : State := request seq 0x2C#8 (twoPayload p) gateEnableOwner s

/-- GATE ENABLE. -/
def execGateEnable (seq : Byte) (p : List Byte) (s : State) : Step := .next (s.gateEnable seq p)

/-- A NOTHING answer taken. -/
def State.nothingAnswer (s : State) (g : Nat) : State := s.answer g id id

/-- NOTHING. -/
def execNothing (g : Nat) (s : State) : Step := .next ((s.recordTaken .gateBus).nothingAnswer g)

/-- A PRESENT answer taken; while the part is UNCONFIGURED it is refused OUT_OF_SERVICE (R17). -/
def State.presented (s : State) (g : Nat) (x : Credential) : State :=
  s.answer g (fun t => t.verdict g (some .outOfService) 0) fun t => t.presentAnswer g x

/-- PRESENT. -/
def execPresent (g : Nat) (x : Credential) (s : State) : Step := .next ((s.recordTaken .gateBus).presented g x)

/-- A PASSED answer taken. -/
def State.passedAnswer (s : State) (g : Nat) : State := s.answer g id fun t => t.passageAnswer g .commit

/-- PASSED. -/
def execPassed (g : Nat) (s : State) : Step := .next ((s.recordTaken .gateBus).passedAnswer g)

/-- An ABANDONED answer taken. -/
def State.abandonedAnswer (s : State) (g : Nat) : State := s.answer g id fun t => t.passageAnswer g .release

/-- ABANDONED. -/
def execAbandoned (g : Nat) (s : State) : Step := .next ((s.recordTaken .gateBus).abandonedAnswer g)

/-- A FAULT answer taken. -/
def State.gateFault (s : State) (g code : Nat) : State := s.answer g id fun t => t.faultAnswer g code

/-- GATE_FAULT. -/
def execGateFault (g : Nat) (code : Byte) (s : State) : Step := .next ((s.recordTaken .gateBus).gateFault g code.toNat)

/-- POLL_TIMEOUT: no valid answer within 10 ms of a poll (R153). -/
def execPollTimeout (s : State) : Step := .next (s.pollFails false)

end Sys2Proof.Machine
end

