-- ==== Sys2Proof/Machine/StoreCommands.lean ====
section
/-! DEFINITION. Commands of the credential store (chapter 9): the pass table, the cursor, the deny list, the token ring,
STORE PLAN, the day and the clock. -/

namespace Sys2Proof.Machine

open Sys2Proof

/-- R160: the rows that the credential requests share, with whether a field is out of its range. -/
def storeRows (s : State) (outOfRange : Bool) : List (Bool × Ruling) :=
  [(s.unconfigured, .refuse .state),
   (s.store.state == .clearing, .refuse .busy),
   (outOfRange, .refuse .range)]

/-- R164: a decision is open, or a grant in flight, for a PASS with this id. -/
def State.passInUse (s : State) (id : Nat) : Bool :=
  (s.bus.gates.any fun g => (g.decision.map fun x => x.kind == .pass && x.id == id) == some true) ||
  s.board.grants.any fun g => g.kind == .pass && g.id == id

/-- The store changed. -/
def changeStore (f : CredStore → CredStore) : State → State := fun t => t.modStore f

/-- R164: the records after a load. -/
def CredStore.load (c : CredStore) (r : PassRec) : CredStore := { c with passes := insertPass r c.passes }

/-- R164: PASS LOAD. -/
def passLoadOwner (r : PassRec) (s : State) : Ruling :=
  let after := s.store.load r
  let index := (after.passIndex? r.id).getD 0
  firstRow
    (storeRows s (decide (15 < r.cls) || decide (r.lastDay < r.firstDay)) ++
      [(s.passInUse r.id, .refuse .busy),
       ((s.store.pass? r.id).isSome, ⟨some (.passLoaded true index), changeStore fun c => c.load r⟩),
       (decide (passCapacity s.store.plan ≤ s.store.passes.length), .refuse .full)])
    ⟨some (.passLoaded false index), changeStore fun c => c.load r⟩

/-- The PASS LOAD frame taken. -/
def State.passLoad (seq : Byte) (p : List Byte) (s : State) : State := request seq 0x30#8 (passPayload p) passLoadOwner s

/-- PASS LOAD. -/
def execPassLoad (seq : Byte) (p : List Byte) (s : State) : Step := .next (s.passLoad seq p)

/-- R164: PASS DELETE. -/
def passDeleteOwner (id : Nat) (s : State) : Ruling :=
  firstRow
    (storeRows s false ++
      [((s.store.pass? id).isNone, .refuse .absent),
       (s.passInUse id, .refuse .busy)])
    (.accept (changeStore fun c => { c with passes := c.passes.filter fun p => p.id != id }))

/-- The PASS DELETE frame taken. -/
def State.passDelete (seq : Byte) (p : List Byte) (s : State) : State := request seq 0x31#8 (longPayload p) passDeleteOwner s

/-- PASS DELETE. -/
def execPassDelete (seq : Byte) (p : List Byte) (s : State) : Step := .next (s.passDelete seq p)

/-- R165: PASS READ. -/
def passReadOwner (_ : Unit) (s : State) : Ruling :=
  let r := s.store.readPasses
  firstRow (storeRows s false) ⟨some (.passes r.1 r.2), changeStore fun c => { c with cursor := r.2 }⟩

/-- The PASS READ frame taken. -/
def State.passRead (seq : Byte) (p : List Byte) (s : State) : State := request seq 0x32#8 (noPayload p) passReadOwner s

/-- PASS READ. -/
def execPassRead (seq : Byte) (p : List Byte) (s : State) : Step := .next (s.passRead seq p)

/-- R165: CURSOR SET. -/
def cursorSetOwner (a : Nat × Byte) (s : State) : Ruling :=
  firstRow (storeRows s (decide (1024 < a.1) || (dirOfCode a.2).isNone))
    (.accept (changeStore fun c => { c with cursor := a.1, cursorDir := (dirOfCode a.2).getD .up }))

/-- The CURSOR SET frame taken. -/
def State.cursorSet (seq : Byte) (p : List Byte) (s : State) : State := request seq 0x33#8 (cursorPayload p) cursorSetOwner s

/-- CURSOR SET. -/
def execCursorSet (seq : Byte) (p : List Byte) (s : State) : Step := .next (s.cursorSet seq p)

/-- R168: the entry that DENY ADD or DENY REMOVE names, its base with the lowest k bits as 0; none out of range. -/
def denyEntry (a : Nat × Nat × Byte) : Option DenyRec :=
  if 8 < a.2.1 then none else (denyKindOfCode a.2.2).map fun kind => ⟨maskLow a.1 a.2.1, a.2.1, kind⟩

/-- R168: DENY ADD. -/
def denyAddOwner (a : Nat × Nat × Byte) (s : State) : Ruling :=
  match denyEntry a with
  | none => firstRow (storeRows s true) (.refuse .range)
  | some e =>
    firstRow
      (storeRows s false ++
        [(s.store.deny.contains e, .refuse .duplicate),
         (decide (Config.denySize ≤ s.store.deny.length), .refuse .full)])
      (.accept (changeStore fun c => { c with deny := c.deny ++ [e] }))

/-- The DENY ADD frame taken. -/
def State.denyAdd (seq : Byte) (p : List Byte) (s : State) : State := request seq 0x34#8 (denyPayload p) denyAddOwner s

/-- DENY ADD. -/
def execDenyAdd (seq : Byte) (p : List Byte) (s : State) : Step := .next (s.denyAdd seq p)

/-- R168: DENY REMOVE. -/
def denyRemoveOwner (a : Nat × Nat × Byte) (s : State) : Ruling :=
  match denyEntry a with
  | none => firstRow (storeRows s true) (.refuse .range)
  | some e =>
    firstRow (storeRows s false ++ [(!s.store.deny.contains e, .refuse .absent)])
      (.accept (changeStore fun c => { c with deny := c.deny.erase e }))

/-- The DENY REMOVE frame taken. -/
def State.denyRemove (seq : Byte) (p : List Byte) (s : State) : State := request seq 0x35#8 (denyPayload p) denyRemoveOwner s

/-- DENY REMOVE. -/
def execDenyRemove (seq : Byte) (p : List Byte) (s : State) : Step := .next (s.denyRemove seq p)

/-- R167: TOKEN FLUSH. -/
def tokenFlushOwner (_ : Unit) (s : State) : Ruling :=
  firstRow (storeRows s false) (.accept (changeStore fun c => { c with ring := [] }))

/-- The TOKEN FLUSH frame taken. -/
def State.tokenFlush (seq : Byte) (p : List Byte) (s : State) : State := request seq 0x36#8 (noPayload p) tokenFlushOwner s

/-- TOKEN FLUSH. -/
def execTokenFlush (seq : Byte) (p : List Byte) (s : State) : Step := .next (s.tokenFlush seq p)

/-- R162: STORE PLAN. -/
def storePlanOwner (a : Byte) (s : State) : Ruling :=
  firstRow
    [(s.cfg.commit != .idle, .refuse .busy),
     (s.unconfigured, .refuse .state),
     (decide (3 < a.toNat), .refuse .range),
     (s.store.state == .clearing, .refuse .busy),
     (s.windowBusy, .refuse .state),
     (!s.board.grants.isEmpty, .refuse .state)]
    (.accept fun t => t.beginClear a.toNat)

/-- The STORE PLAN frame taken. -/
def State.storePlan (seq : Byte) (p : List Byte) (s : State) : State := request seq 0x37#8 (onePayload p) storePlanOwner s

/-- STORE PLAN. -/
def execStorePlan (seq : Byte) (p : List Byte) (s : State) : Step := .next (s.storePlan seq p)

/-- R170: SET DAY; every value of its two bytes is in range. -/
def setDayOwner (day : Nat) (_ : State) : Ruling := .accept (changeStore fun c => { c with day := day })

/-- The SET DAY frame taken. -/
def State.setDay (seq : Byte) (p : List Byte) (s : State) : State := request seq 0x38#8 (wordPayload p) setDayOwner s

/-- SET DAY. -/
def execSetDay (seq : Byte) (p : List Byte) (s : State) : Step := .next (s.setDay seq p)

/-- R170: SET CLOCK. -/
def setClockOwner (second : Nat) (_ : State) : Ruling :=
  if 86399 < second then .refuse .range else .accept (changeStore fun c => { c with clock := second })

/-- The SET CLOCK frame taken. -/
def State.setClock (seq : Byte) (p : List Byte) (s : State) : State := request seq 0x39#8 (longPayload p) setClockOwner s

/-- SET CLOCK. -/
def execSetClock (seq : Byte) (p : List Byte) (s : State) : Step := .next (s.setClock seq p)

/-- CLOCK_TICK: the one-second timer expires (R170). -/
def execClockTick (s : State) : Step := .next (s.figuresSettled.modStore CredStore.tick)

/-- R161: a clear ends. -/
def State.endClear (s : State) : State :=
  (s.modStore fun c => { c with state := .ready, clearRunning := false }).report
    (.gate (.storeReady s.store.plan (passCapacity s.store.plan) (ringCapacity s.store.plan)))

/-- STORE_CLEAR_END; no clear is in progress outside CLEARING, nor before the start-up load has ended. -/
def execStoreClearEnd (s : State) : Step := .next (if s.store.clearRunning then s.figuresSettled.endClear else s)

end Sys2Proof.Machine
end

