-- ==== Sys2Proof/Machine/StatusSections.lean ====
section
/-! DEFINITION. The sections of a STATUS reply (R178), item by item in the order of their rules, with the widths of 11.1.
A code of an enumeration is its place in the rule that lists it (11, opening words), which is the place of its
constructor. -/

namespace Sys2Proof.Machine

open Sys2Proof

/-- A flag: 0 clear, 1 set. -/
def flagItem (b : Bool) : Item := .u8 (flagCode b)

/-- A field that may be absent: a presence flag, and value bytes that are 0 while absent. -/
def optItem {α : Type} (mk : α → Item) (zero : α) : Option α → List Item
  | none => [flagItem false, mk zero]
  | some v => [flagItem true, mk v]

/-- An absent or present byte. -/
def optU8 : Option Nat → List Item := optItem Item.u8 0

/-- An absent or present value of two bytes. -/
def optU16 : Option Nat → List Item := optItem Item.u16 0

/-- A speed, a distance or a position: 4 bytes signed. -/
def lengthItem (n : Nat) : Item := .i32 n

/-- An absent or present speed. -/
def optLength : Option Nat → List Item := optItem lengthItem 0

/-- The value shown for a timer that does not run. -/
def timerStopped : Nat := 4294967295

/-- The time left on a timer, in ms: a free value up to the period it was started with (DESIGN CHOICE, assumption log 3). -/
def State.timerItem (s : State) (number : Nat) (period : Option Nat) : Item :=
  .u32 ((period.map fun p => Config.clockReading s.draws number % (p + 1)).getD timerStopped)

/-- The age of a value, in ms: a free value (DESIGN CHOICE, assumption log 3). -/
def State.ageItem (s : State) (number : Nat) : Item := .u32 (Config.clockReading s.draws number % 4294967296)

/-- Code of an authority: NONE 0, LEFT 1, RIGHT 2 (11.2). -/
def authorityCode : Option Side → Nat
  | none => 0
  | some .left => 1
  | some .right => 2

/-- Code of a slot command: NONE 0, OPEN 1, CLOSE 2, REOPEN 3 (11.2). -/
def slotCode : Option DoorCommand → Nat
  | none => 0
  | some c => c.ctorIdx + 1

/-- Code of the drive-line state (11): LOST 4. -/
def TripCtl.driveCode (t : TripCtl) : Nat := if t.driveLostNow then 4 else t.driveLast.ctorIdx

/-- Section 0, CONFIG (R1). Kind, index and check code of a load result without a failure stand as 0 and behind no presence
flag (DESIGN CHOICE, assumption log 31). -/
def State.configSection (s : State) : List Item :=
  let f := s.cfg.loadFailure.getD (0, 0, 0)
  [.u8 s.cfg.commit.ctorIdx, .u16 s.cfg.sequence, .u8 s.cfg.loadResult.ctorIdx, .u8 f.1,
    .u8 f.2.1, .u8 f.2.2]

/-- Section 1, POSITION (R35): every item, the mark counters too, from the latest view. -/
def State.positionSection (s : State) : List Item :=
  let v := s.pos.view
  [.i32 v.xP, .i32 v.xQ, .i32 v.vP, .i32 v.vQ, lengthItem v.vm, .u8 v.motion.ctorIdx, .u8 v.pos.ctorIdx,
    flagItem v.standstill, flagItem v.settled] ++ optU8 v.atStop ++
  [flagItem v.hold.isSome, .u8 v.corrected, .u8 v.mismatch, .u8 v.unexpected, .u8 v.missed]

/-- R49: the figures of one car. -/
def carItems (c : CarLoad) (implausible : Nat) : List Item :=
  [.u16 c.onboard, .u8 c.pending, .u8 c.inflight, .u32 c.payloadCount] ++ optU16 c.weigh ++
  [flagItem c.fromWeigh, .u32 c.payload, .u32 c.gross, .u8 implausible]

/-- R49: the figures of one direction. -/
def dirItems (d : DirLoad) : List Item := [.u16 d.u, flagItem d.within] ++ d.aEff.map .u16

/-- The figures of a car while none exist (R37). -/
def CarLoad.zero : CarLoad := ⟨0, 0, 0, none, 0, false, 0, 0⟩

/-- The snapshot whose value bytes stand while none exists: every one 0, with one a_eff for each zone of the active
configuration (11, opening words; DESIGN CHOICE, assumption log 31). -/
def Snapshot.zero (zones : Nat) : Snapshot := ⟨0, .up, ⟨0, 0⟩, ⟨false, false⟩, 0, List.replicate zones 0⟩

/-- R49: the snapshot behind its presence flag. -/
def snapshotItems (zones : Nat) (s : Option Snapshot) : List Item :=
  let n := s.getD (Snapshot.zero zones)
  [flagItem s.isSome, .u16 n.departure, .u8 n.dir.ctorIdx, .u32 n.payload.a, flagItem n.fromWeigh.a, .u32 n.payload.b,
    flagItem n.fromWeigh.b, .u16 n.u] ++ n.aEff.map .u16

/-- The number of zones of the active configuration. -/
def State.zoneCount (s : State) : Nat := ((s.cfg.active).map fun d => d.zones.length).getD 0

/-- R43, R49, R178: the figures of the estimator that a STATUS reply shows. A STATUS request taken together with a car status
record that gave passing figures may fall between its two changes and show them (a free choice, DESIGN CHOICE, assumption
log 44). -/
def State.shownFigures (s : State) : LoadFigures :=
  match s.load.passing with
  | some f => if Config.pick s.draws % 2 == 1 then f else s.load.figures
  | none => s.load.figures

/-- Section 2, LOAD (R49), the live figures behind a presence flag. -/
def State.loadSection (s : State) : List Item :=
  let f := s.shownFigures
  let l := f.live.getD ⟨⟨CarLoad.zero, CarLoad.zero⟩, ⟨0, false, []⟩, ⟨0, false, []⟩⟩
  [flagItem f.live.isSome] ++ carItems l.cars.a f.implausible.a ++ carItems l.cars.b f.implausible.b ++
  dirItems l.up ++ dirItems l.down ++ snapshotItems s.zoneCount f.snapshot

/-- R62: an entry of the restriction list. -/
def restrictionItems (r : Restriction) : List Item :=
  [.u8 r.kind.ctorIdx, lengthItem r.position, lengthItem r.target, .u16 r.ar, .i32 r.distance, lengthItem r.vr]

/-- Section 3, ENVELOPE (R62), 9 entries a page, from the latest envelope result, v_perm too where a notice of R58 has come
since; the pending cap, which no result carries (R51), is the one held; and the items before the entries stand on every page
(DESIGN CHOICE, assumption log 31). -/
def State.envelopeSection (s : State) (page : Nat) : List Item :=
  let r := s.env.result
  [lengthItem r.vPerm, lengthItem r.warning, lengthItem r.service, lengthItem r.emergency, lengthItem r.lineMax,
    .u8 r.level.ctorIdx, flagItem r.lineMaxFlag, lengthItem r.zoneTerm] ++ optLength r.cap ++
  optLength s.env.pendingCap ++ ((r.restrictions.drop (9 * page)).take 9).flatMap restrictionItems

/-- R88: the trip record. -/
def recordItems (r : TripRecord) : List Item :=
  [.u8 r.kind.ctorIdx] ++ optU8 r.origin ++ optU8 r.destination ++
  [.u8 r.dir.ctorIdx, .u8 r.cls.ctorIdx, .u16 r.departure] ++ optLength r.profileCap ++
  optU8 (r.controlled.map fun c => c.ctorIdx) ++ [flagItem r.markFound, lengthItem r.refTravel, flagItem r.overtravel]

/-- The record whose bytes stand while none exists: every value byte 0. -/
def TripRecord.zero : TripRecord := ⟨.normal, none, none, .up, .normal, 0, none, none, false, 0, false⟩

/-- Section 4, TRIP (R88). -/
def State.tripSection (s : State) : List Item :=
  let t := s.trip
  [.u8 t.state.ctorIdx] ++ optU8 t.state.stop? ++ [flagItem t.record.isSome] ++
  recordItems (t.record.getD TripRecord.zero) ++
  [lengthItem t.vRef, .u8 t.step, flagItem t.holdWait,
    if t.tPrep.isSome then s.timerItem 1 t.tPrep else s.timerItem 2 t.tLift, .u16 t.departures] ++
  optU8 (t.lastAbandon.map fun r => r.ctorIdx) ++
  [.u8 t.driveCode, .u8 t.driveLast.ctorIdx, .u8 t.driveFaultCode, .i8 t.driveTorque, .u8 t.driveMissed,
    flagItem t.progress.isSome, .i32 ((t.progress.map (·.1)).getD 0), .u8 ((t.progress.map (·.2)).getD 0)]

/-- The a_meas of the last escalation check; 0 for a check passed at standstill, which works none out (DESIGN CHOICE,
assumption log 36). -/
def CheckResult.measured : CheckResult → Int
  | .passed a | .failed a => a
  | .notMade | .passedStill => 0

/-- Section 5, BRAKES (R109). -/
def State.brakesSection (s : State) : List Item :=
  let b := s.brake
  [.u8 b.sb.command.ctorIdx, .u8 b.eb.command.ctorIdx, flagItem b.de, .u8 b.sb.feedback.ctorIdx,
    .u8 b.eb.feedback.ctorIdx, flagItem b.sb.disagrees, flagItem b.eb.disagrees, flagItem b.sb.stuck,
    flagItem b.eb.stuck, s.timerItem 3 b.sb.applyTimer, s.timerItem 4 b.eb.applyTimer, .u8 b.state.ctorIdx,
    flagItem b.latch, s.timerItem 5 b.escalation, .u8 b.check.ctorIdx, .i32 b.check.measured, .u16 b.requiredDecel,
    flagItem b.ebLift.isSome, s.timerItem 6 b.ebLift, .u8 b.lastLevel.ctorIdx, flagItem b.lastFlag,
    .u8 b.captures.length, flagItem b.overflow, .u8 b.drops]

/-- A pair of counters, behind a presence flag. -/
def counterItems (p : Option (BitVec 16 × BitVec 16)) : List Item :=
  [flagItem p.isSome, .u16 ((p.map fun q => q.1.toNat).getD 0), .u16 ((p.map fun q => q.2.toNat).getD 0)]

/-- Sections 6 and 7, CAR A and CAR B (R131). `base` numbers the timers of the car. Before the first valid record the time
since the last one and the taken tag are absent (DESIGN CHOICE, assumption log 31). -/
def State.carSection (s : State) (c : Car) (base : Nat) : List Item :=
  let l := s.link.get c
  let d := s.door.get c
  [flagItem (!l.live), flagItem l.takenTag.isSome, if l.takenTag.isSome then s.ageItem base else .u32 0,
    .u16 l.recordErrors, .u8 d.left.ctorIdx, .u8 d.right.ctorIdx] ++ optU8 l.takenTag ++ counterItems l.counters ++
  counterItems l.baselines ++ [.u16 l.onboard] ++ optU16 l.weigh ++
  [if l.weigh.isSome then s.ageItem (base + 1) else .u32 0, .u8 (attendantCode l.attendant), .u8 (carFaultsCode l.faults),
    .u8 (slotCode l.slot), .u8 l.tag, .u8 (displayCode (s.carCommand c)), .u8 d.state.ctorIdx,
    .u8 (authorityCode d.authority), .u8 d.retry] ++ optU8 (d.cycle.map fun p => p.ctorIdx) ++
  [s.timerItem (base + 2) d.tClose, flagItem d.arrival, flagItem d.memUnlocked, flagItem d.memNoAuthority,
    flagItem d.memWrongSide]

/-- R151: the items of one window. -/
def windowItems (w : Window) : List Item :=
  [.u8 w.state.ctorIdx] ++ optU8 w.platform ++ [.u8 w.pending, .u8 w.inflight] ++
  optU8 (w.reason.map fun r => r.ctorIdx) ++
  [.u16 w.granted, .u16 w.committed, .u16 w.released, .u16 w.unverified, .u8 w.carryIn, flagItem w.deferred]

/-- R151: the items of one grant. -/
def State.grantItems (s : State) (g : Grant) : List Item :=
  [.u8 g.gate, .u8 g.car.ctorIdx, .u8 g.platform, .u8 g.kind.ctorIdx, .u32 g.id, .u8 g.category.code] ++
  optU16 g.passIndex ++ [.u16 g.day, .u32 g.second, s.timerItem (100 + g.gate) (some g.timer)]

/-- The platform indexes present in the active configuration. -/
def State.platformIndexes (s : State) : List Nat := ((s.cfg.active).map fun d => d.platforms.map (·.1)).getD []

/-- Section 8, BOARDING (R151), 6 grants a page. The items before the grants stand on every page (DESIGN CHOICE, assumption
log 31). -/
def State.boardingSection (s : State) (page : Nat) : List Item :=
  windowItems s.board.windows.a ++ windowItems s.board.windows.b ++
  (s.platformIndexes.map fun p => .u8 (s.board.carry.getD p 0)) ++
  ((s.board.grants.drop (6 * page)).take 6).flatMap s.grantItems

/-- R171: the items of one address. -/
def gateItems (g : Gate) : List Item :=
  [.u8 g.state.ctorIdx] ++ optU8 g.platform ++
  [.u8 g.misses, .u8 g.missCount, .u8 g.protocolErrors, flagItem g.lock] ++ optU8 g.faultCode ++
  [flagItem g.decision.isSome]

/-- Section 9, GATES (R171). -/
def State.gatesSection (s : State) : List Item := s.bus.gates.flatMap gateItems ++ [.u8 s.bus.position]

/-- Section 10, STORE (R171). -/
def State.storeSection (s : State) : List Item :=
  let c := s.store
  [.u8 c.state.ctorIdx, .u8 c.plan, .u16 (passCapacity c.plan), .u16 (ringCapacity c.plan), .u16 c.passes.length,
    .u16 c.ring.length, .u16 c.cursor, .u8 c.cursorDir.ctorIdx] ++
  (c.classes.flatMap fun r => [.u8 r.category.code, flagItem r.enabled]) ++ [.u16 c.day, .u32 c.clock]

/-- R171: the items of one deny list entry. -/
def denyItems (e : DenyRec) : List Item := [.u32 e.base, .u8 e.k, .u8 e.kind.ctorIdx]

/-- Section 11, DENY (R171), 32 entries a page. -/
def State.denySection (s : State) (page : Nat) : List Item := ((s.store.deny.drop (32 * page)).take 32).flatMap denyItems

/-- R178: the number of pages of a section. -/
def State.sectionPages (s : State) : Nat → Nat
  | 3 => if 9 < s.env.result.restrictions.length then 2 else 1
  | 8 => if 6 < s.board.grants.length then 2 else 1
  | 11 => max 1 ((s.store.deny.length + 31) / 32)
  | _ => 1

/-- R178: the items of a section and page. -/
def State.sectionItems (s : State) (code page : Nat) : List Item :=
  match code with
  | 0 => s.configSection
  | 1 => s.positionSection
  | 2 => s.loadSection
  | 3 => s.envelopeSection page
  | 4 => s.tripSection
  | 5 => s.brakesSection
  | 6 => s.carSection .a 10
  | 7 => s.carSection .b 20
  | 8 => s.boardingSection page
  | 9 => s.gatesSection
  | 10 => s.storeSection
  | _ => s.denySection page

/-- R178: the common part of a STATUS reply. -/
def State.statusCommon (s : State) : StatusCommon where
  configured := !s.unconfigured
  trip := s.trip.state
  pos := s.pos.pos
  supervisor := s.brake.state
  latch := s.brake.latch
  store := s.store.state
  linkErrors := s.port.linkErrors
  dropped := s.port.dropped
  reportsWaiting := s.port.reports.length
  repliesWaiting := s.port.replies.length

end Sys2Proof.Machine
end

