-- ==== Sys2Proof/Machine/LinkCommands.lean ====
section
/-! DEFINITION. Commands of the supervisor link port (chapter 10) and of the partner links (R181): STATUS, RESTART, the
frames that are discarded or unknown, the transmitter, the byte-gap timers, failed link records, and the incoming bytes. -/

namespace Sys2Proof.Machine

open Sys2Proof

/-! ### STATUS and RESTART (R178, R179) -/

/-- R178: what a STATUS reply that is built leaves: the reports-dropped flag clear, and its free readings drawn. -/
def State.statusBuilt (s : State) : State :=
  { s.modPort fun p => { p with dropped := false } with draws := s.draws + 1 }

/-- R178: STATUS. -/
def statusOwner (a : Byte × Byte) (s : State) : Ruling :=
  let code := a.1.toNat
  let page := a.2.toNat
  if 11 < code ∨ s.sectionPages code ≤ page then .refuse .range
  else ⟨some (.status s.statusCommon (s.sectionPages code) (s.sectionItems code page)), State.statusBuilt⟩

/-- The STATUS frame taken. -/
def State.statusRequest (seq : Byte) (p : List Byte) (s : State) : State := request seq 0x3E#8 (twoPayload p) statusOwner s

/-- STATUS. -/
def execStatus (seq : Byte) (p : List Byte) (s : State) : Step := .next (s.statusRequest seq p)

/-- R179: RESTART. -/
def restartOwner (_ : Unit) (s : State) : Ruling :=
  if s.cfg.commit = .writing then .refuse .busy else .accept fun t => t.modPort fun p => { p with restarting := true }

/-- The RESTART frame taken. -/
def State.restart (seq : Byte) (p : List Byte) (s : State) : State := request seq 0x3F#8 (noPayload p) restartOwner s

/-- RESTART. -/
def execRestart (seq : Byte) (p : List Byte) (s : State) : Step := .next (s.restart seq p)

/-! ### Frames (R173, R174, R176) -/

/-- R174: a frame of a type that is not a request type; a type of 0x80 or above is discarded and counted. -/
def State.unknownFrame (s : State) (seq typ : Byte) : State :=
  if s.port.restarting then s.frameOver Port.hunt
  else if decide (0x80 ≤ typ.toNat) || decide (Config.replyQueueSize ≤ s.port.replies.length) then s.frameOver Port.discard
  else (s.frameOver Port.hunt).reply ⟨replyType typ, seq, .plain .unknown⟩

/-- UNKNOWN_REQUEST. -/
def execUnknownRequest (seq typ : Byte) (s : State) : Step := .next (s.unknownFrame seq typ)

/-- R173, R179: a frame discarded and counted; after an accepted RESTART it is discarded and not counted. -/
def State.discardFrame (s : State) : State :=
  if s.port.restarting then s.frameOver Port.hunt else s.frameOver Port.discard

/-- DISCARDED_FRAME: for every reason of R173 the frame is counted and gets no reply. -/
def execDiscardedFrame (_why : DiscardReason) (s : State) : Step := .next s.discardFrame

/-- BYTE_GAP_TIMEOUT: the frame in hand is discarded as a gap error (R172); a timer that does not run does not expire. -/
def execByteGapTimeout (s : State) : Step := .next (if s.port.rx.gap then s.discardFrame else s)

/-- R179: the frame in transmission is the OK reply of an accepted RESTART. -/
def Port.restartReplySent (p : Port) : Bool :=
  match p.sending with
  | some (.reply r) => p.restarting && r.typ == replyType 0x3F#8 && r.body == .plain .ok
  | _ => false

/-- R176, R179: the last byte of the frame in transmission has been sent. -/
def State.frameSent (s : State) : State :=
  if s.port.restartReplySent then s.resetPart else s.frameOver fun p => Port.start { p with sending := none }

/-- FRAME_SENT; nothing is sent while the transmitter is free. -/
def execFrameSent (s : State) : Step := .next (if s.port.sending.isSome then s.frameSent else s)

/-! ### Failed link records and the links' transmitters (R181) -/

/-- R181, R110, R153, R80: a record that fails on its link. -/
def State.failedRecord (s : State) (w : PartnerLink) : State :=
  match w with
  | .gateBus => s.pollFails true
  | .carA => s.modLink .a fun l => { l with recordErrors := satAdd 65535 l.recordErrors 1 }
  | .carB => s.modLink .b fun l => { l with recordErrors := satAdd 65535 l.recordErrors 1 }
  | .driveLine => s

/-- INVALID_LINK_RECORD. -/
def execInvalidLinkRecord (w : PartnerLink) (s : State) : Step := .next ((s.recordTaken w).failedRecord w)

/-- LINK_GAP_TIMEOUT: a record that breaks off in a gap is a failed record; a timer that does not run does not expire. -/
def execLinkGapTimeout (w : PartnerLink) (s : State) : Step :=
  .next (if (s.wires.get w).rx.gap then (s.recordTaken w).failedRecord w else s)

/-- LINK_RECORD_SENT: the record in transmission has been sent. -/
def execLinkRecordSent (w : PartnerLink) (s : State) : Step := .next (s.figuresSettled.modWire w LinkPort.sent)

/-! ### The receive assemblers (R172) -/

/-- What one byte brings: nothing yet, a length error, or a complete frame as its length byte and the bytes stored. -/
inductive Assembled where
  | nothing
  | lengthError
  | complete (length : Nat) (stored : List Byte)
  deriving DecidableEq, Repr

/-- R172: one byte taken, for a start byte and the range of the length. -/
def Assembler.take (start : Byte) (lo hi : Nat) (a : Assembler) (b : Byte) : Assembler × Assembled :=
  match a.phase with
  | .hunt => if b = start then (⟨.header, 0, [], false⟩, .nothing) else (a, .nothing)
  | .header =>
    if lo ≤ b.toNat ∧ b.toNat ≤ hi then (⟨.body, b.toNat, [], true⟩, .nothing) else (Assembler.idle, .lengthError)
  | .body =>
    let stored := a.stored ++ [b]
    if stored.length = a.length + 2 then (Assembler.idle, .complete a.length stored)
    else ({ a with stored := stored, gap := true }, .nothing)

/-- R173: the CRC-16 over the length byte and the `length` bytes that follow equals the two bytes after them. -/
def crcMatches (length : Nat) (stored : List Byte) : Bool :=
  crcBytes (BitVec.ofNat 8 length :: stored.take length) == stored.drop length

/-! ### Incoming bytes of the supervisor link -/

/-- 11.1: the request taken for a type; an unknown type replies UNKNOWN. CONFIG WRITE serves both forms of its remove
flag. -/
def State.takeRequest (s : State) (typ seq : Byte) (p : List Byte) : State :=
  match typ.toNat with
  | 0x01 => s.configWrite seq p
  | 0x02 => s.configRead seq p
  | 0x03 => s.configCommit seq p
  | 0x10 => s.dispatch seq p
  | 0x11 => s.stopRequest seq p
  | 0x12 => s.recover seq p
  | 0x13 => s.referenceRun seq p
  | 0x14 => s.setClass seq p
  | 0x18 => s.brakeReset seq p
  | 0x19 => s.faultsRead seq p
  | 0x1A => s.faultsClear seq p
  | 0x20 => s.doorRelease seq p
  | 0x21 => s.doorOpen seq p
  | 0x22 => s.doorClose seq p
  | 0x23 => s.doorCancel seq p
  | 0x24 => s.carFlags seq p
  | 0x25 => s.setOnboard seq p
  | 0x28 => s.windowOpen seq p
  | 0x29 => s.windowClose seq p
  | 0x2A => s.carryClear seq p
  | 0x2C => s.gateEnable seq p
  | 0x30 => s.passLoad seq p
  | 0x31 => s.passDelete seq p
  | 0x32 => s.passRead seq p
  | 0x33 => s.cursorSet seq p
  | 0x34 => s.denyAdd seq p
  | 0x35 => s.denyRemove seq p
  | 0x36 => s.tokenFlush seq p
  | 0x37 => s.storePlan seq p
  | 0x38 => s.setDay seq p
  | 0x39 => s.setClock seq p
  | 0x3E => s.statusRequest seq p
  | 0x3F => s.restart seq p
  | _ => s.unknownFrame seq typ

/-- R173, R174: a complete frame. -/
def State.takeFrame (s : State) (length : Nat) (stored : List Byte) : State :=
  if crcMatches length stored then
    match stored.take length with
    | typ :: seq :: p => s.takeRequest typ seq p
    | _ => s.discardFrame
  else s.discardFrame

/-- R172: one byte of the supervisor link. -/
def State.takeByte (s : State) (b : Byte) : State :=
  let r := s.port.rx.take 0xA5#8 2 252 b
  let s1 := s.modPort fun p => { p with rx := r.1 }
  match r.2 with
  | .nothing => s1
  | .lengthError => s1.discardFrame
  | .complete n stored => s1.takeFrame n stored

/-- INCOMING_BYTE. -/
def execIncomingByte (b : Byte) (s : State) : Step := .next (s.takeByte b)

/-! ### Incoming bytes of the partner links -/

/-- A gate address, 1 to 12. -/
def addressOf (b : Byte) : Option Nat := if 1 ≤ b.toNat ∧ b.toNat ≤ 12 then some b.toNat else none

/-- Kind code of a credential: PASS 0, TOKEN 1. -/
def credKindOfCode (b : Byte) : Option CredKind :=
  match b.toNat with
  | 0 => some .pass
  | 1 => some .token
  | _ => none

/-- R157: the credential of a PRESENT answer. -/
def credentialOf (kind i3 i2 i1 i0 cls d1 d0 : Byte) : Option Credential :=
  match credKindOfCode kind with
  | none => none
  | some k =>
    if h : cls.toNat < 16 then
      some ⟨k, BitVec.ofNat 32 (be32 i3 i2 i1 i0), ⟨cls.toNat, h⟩, BitVec.ofNat 16 (be16 d1 d0)⟩
    else none

/-- 11.2: a record of the gate bus, as what it does; none where it is not valid. -/
def State.gateRecord (s : State) (kind : Nat) (fields : List Byte) : Option State :=
  match kind, fields with
  | 0x10, [a] => (addressOf a).map s.nothingAnswer
  | 0x11, [a, k, i3, i2, i1, i0, cls, d1, d0] =>
    (addressOf a).bind fun g => (credentialOf k i3 i2 i1 i0 cls d1 d0).map fun x => s.presented g x
  | 0x12, [a] => (addressOf a).map s.passedAnswer
  | 0x13, [a] => (addressOf a).map s.abandonedAnswer
  | 0x14, [a, code] => (addressOf a).map fun g => s.gateFault g code.toNat
  | _, _ => none

/-- 11.2: the weigh value behind its presence flag. -/
def weighOf (present w1 w0 : Byte) : Option (Option (BitVec 16)) :=
  match present.toNat with
  | 0 => some none
  | 1 => some (some (BitVec.ofNat 16 (be16 w1 w0)))
  | _ => none

/-- 11.2: the taken tag, 0 to 7. -/
def tagOf (b : Byte) : Option (Fin 8) := if h : b.toNat < 8 then some ⟨b.toNat, h⟩ else none

/-- 11.2: a CAR STATUS record from its fields; none where it is not valid. -/
def carStatusOf (fields : List Byte) : Option CarStatus :=
  match fields with
  | [l, r, tag, i1, i0, o1, o0, present, w1, w0, att, flt] =>
    match doorReportOfCode l, doorReportOfCode r, tagOf tag, weighOf present w1 w0, attendantOfByte att,
        carFaultsOfByte flt with
    | some l, some r, some t, some w, some a, some f =>
      some ⟨l, r, t, BitVec.ofNat 16 (be16 i1 i0), BitVec.ofNat 16 (be16 o1 o0), w, a, f⟩
    | _, _, _, _, _, _ => none
  | _ => none

/-- 11.2: a DRIVE STATUS record from its fields; none where it is not valid. -/
def driveStatusOf (fields : List Byte) : Option DriveStatus :=
  match fields with
  | [st, code, torque] =>
    match driveReadingOfCode st with
    | none => none
    | some r => if -100 ≤ signed8 torque ∧ signed8 torque ≤ 100 then some ⟨r, code, signed8 torque⟩ else none
  | _ => none

/-- R181: a record whose CRC matches, on its link; none where it is not valid there. -/
def State.linkRecord (s : State) (w : PartnerLink) (kind : Nat) (fields : List Byte) : Option State :=
  match w, kind with
  | .gateBus, k => s.gateRecord k fields
  | .carA, 0x21 => (carStatusOf fields).map fun r => s.carRecord .a r
  | .carB, 0x21 => (carStatusOf fields).map fun r => s.carRecord .b r
  | .driveLine, 0x31 => (driveStatusOf fields).map s.driveRecord
  | _, _ => none

/-- R153, R181: the fields of a record of the gate bus begin with the gate's address; a record with another address than that
of the outstanding poll does not answer it (DEDUCED, assumption log 24). -/
def State.strayFields (s : State) (w : PartnerLink) (fields : List Byte) : Bool :=
  match w, s.bus.outstanding, fields with
  | .gateBus, some (g, _), address :: _ => address.toNat != g
  | _, _, _ => false

/-- R181, R153: a record whose CRC matches and that is not valid fails on its link; on the gate bus one of another address than
that of the outstanding poll is discarded and not counted. -/
def State.invalidRecord (s : State) (w : PartnerLink) (fields : List Byte) : State :=
  if s.strayFields w fields then s else s.failedRecord w

/-- R181: a complete record of a link. -/
def State.takeRecord (s : State) (w : PartnerLink) (length : Nat) (stored : List Byte) : State :=
  if crcMatches length stored then
    match stored.take length with
    | kind :: fields => (s.linkRecord w kind.toNat fields).getD (s.invalidRecord w fields)
    | [] => s.failedRecord w
  else s.failedRecord w

/-- R181, R172: one byte of a partner link. -/
def State.takeLinkByte (s : State) (w : PartnerLink) (b : Byte) : State :=
  let r := (s.wires.get w).rx.take 0xC3#8 1 32 b
  match r.2 with
  | .nothing => s.modWire w fun l => { l with rx := r.1 }
  | .lengthError => (s.recordTaken w).failedRecord w
  | .complete n stored => (s.recordTaken w).takeRecord w n stored

/-- LINK_INCOMING_BYTE. -/
def execLinkIncomingByte (w : PartnerLink) (b : Byte) (s : State) : Step := .next (s.takeLinkByte w b)

end Sys2Proof.Machine
end

