-- ==== Sys2Proof/Machine/Layouts.lean ====
section
/-! DEFINITION. The bytes of what the part sends (chapter 11): link records, replies, reports, and the frame or record form
around them. -/

namespace Sys2Proof.Machine

open Sys2Proof

/-- Two's complement in `n` bits of a value that fits them. -/
def wrapTo (n : Nat) (z : Int) : Nat := (BitVec.ofInt n z).toNat

/-- Two bytes, high byte first. -/
def bytes16 (n : Nat) : List Byte := [BitVec.ofNat 8 (n / 256), BitVec.ofNat 8 n]

/-- 11: the bytes of an item, high byte first, signed ones in two's complement. A value that does not fit 4 signed bytes (a
channel position under R18's widest count and fewest counts per metre) stands as a free value: R35 and R178 do not say what is
carried then (DESIGN CHOICE, assumption log 51). -/
def Item.bytes : Item → List Byte
  | .u8 n => [BitVec.ofNat 8 n]
  | .u16 n => bytes16 n
  | .u32 n => bytes32 n
  | .i8 z => [BitVec.ofInt 8 z]
  | .i16 z => bytes16 (wrapTo 16 z)
  | .i32 z => bytes32 (if -2147483648 ≤ z ∧ z ≤ 2147483647 then wrapTo 32 z else Config.wideWord z)

/-- The bytes of a list of items. -/
def itemBytes (l : List Item) : List Byte := l.flatMap Item.bytes

/-! ### Link records (11.2) -/

/-- 11.2: kind and fields of a record that the part sends. -/
def LinkRecord.items : LinkRecord → List Item
  | .carCommand c => [.u8 0x20, .u8 (authorityCode c.authority), .u8 (slotCode c.command), .u8 c.tag, .u8 (displayCode c)]
  | .driveReference v de => [.u8 0x30, .i16 v, flagItem de]
  | .poll g lock => [.u8 0x01, .u8 g, flagItem lock]
  | .verdict g refuse rides =>
    [.u8 0x02, .u8 g, flagItem refuse.isSome, .u8 ((refuse.map fun r => r.ctorIdx + 1).getD 0), .u16 rides]

/-- 10.1, 11.2: start byte, length, content, and the CRC-16 over length and content. -/
def framed (start : Byte) (content : List Byte) : List Byte :=
  let body := BitVec.ofNat 8 content.length :: content
  start :: body ++ crcBytes body

/-- 11.2: the bytes of a link record. -/
def LinkRecord.bytes (r : LinkRecord) : List Byte := framed 0xC3#8 (itemBytes r.items)

/-! ### Replies (11.1) -/

/-- 11.1: a capture list entry in a FAULTS READ reply. -/
def captureItems (e : Capture) : List Item :=
  [.u8 e.cause.ctorIdx, .u8 e.severity.ctorIdx, .u16 e.firstDeparture, .u16 e.lastDeparture, .u8 e.count,
    flagItem e.x.isSome, .i32 (e.x.getD 0)]

/-- 11.1: a pass record, 19 bytes. -/
def passItems (p : PassRec) : List Item :=
  [.u32 p.id, .u8 p.cls, .u16 p.firstDay, .u16 p.lastDay, .u16 p.rides, flagItem p.lastEntry.isSome,
    .u16 ((p.lastEntry.map (·.1)).getD 0), .u32 ((p.lastEntry.map (·.2)).getD 0), .u8 (p.lastPlatform.getD 0)]

/-- 11.1: a field in a CONFIG READ reply. -/
def fieldItems (f : Nat × Option Nat) : List Item := [.u8 f.1, flagItem f.2.isSome, .u32 (f.2.getD 0)]

/-- 11.1: the STATUS common part. -/
def commonItems (c : StatusCommon) : List Item :=
  [.u8 (if c.configured then 0 else 1), .u8 c.trip.ctorIdx, .u8 (c.trip.stop?.getD 255), .u8 c.pos.ctorIdx,
    .u8 c.supervisor.ctorIdx, flagItem c.latch, .u8 c.store.ctorIdx, .u16 c.linkErrors, flagItem c.dropped,
    .u8 c.reportsWaiting, .u8 c.repliesWaiting]

/-- 11.1: the payload of a reply. -/
def ReplyBody.items : ReplyBody → List Item
  | .plain r => [.u8 r.ctorIdx]
  | .done noChange => [.u8 0, flagItem noChange]
  | .invalid k i c => [.u8 8, .u8 k, .u8 i, .u8 c]
  | .record fs => [.u8 0, .u8 fs.length] ++ fs.flatMap fieldItems
  | .passLoaded replaced index => [.u8 0, flagItem replaced, .u16 index]
  | .passes rs cursor => [.u8 0, .u8 rs.length, .u16 cursor] ++ rs.flatMap passItems
  | .faults es overflow n st latch =>
    [.u8 0, .u8 es.length, flagItem overflow, .u8 n, .u8 st.ctorIdx, flagItem latch] ++ es.flatMap captureItems
  | .status c pages items => [.u8 0] ++ commonItems c ++ [.u8 pages] ++ items

/-! ### Reports (11.1) -/

/-- The event byte of a POSITION report: bit 0 STATE_CHANGE, bit 1 MISMATCH, bit 2 UNEXPECTED, bit 3 MISSED. -/
def positionEvent (changed mismatch unexpected missed : Bool) : Nat :=
  flagCode changed + 2 * flagCode mismatch + 4 * flagCode unexpected + 8 * flagCode missed

/-- R131: what the event of a DOOR report adds. -/
def DoorEvent.extra : DoorEvent → List Item
  | .attendant before => [.u8 (attendantCode before)]
  | .withdrawn r => [.u8 r.ctorIdx]
  | .held r => [.u8 r.ctorIdx]
  | .linkLive | .linkLost | .carFault | .granted => []

/-- R151: the fields of the event of a WINDOW report. -/
def WindowEvent.extra : WindowEvent → List Item
  | .opened carry dropped => [.u8 carry, .u8 dropped]
  | .closing r n => [.u8 r.ctorIdx, .u8 n]
  | .shut r g c rel u cin cout => [.u8 r.ctorIdx, .u16 g, .u16 c, .u16 rel, .u16 u, .u8 cin, .u8 cout]
  | .carryCleared n => [.u8 n]

/-- R171: the event byte and the fields of a GATE report. Platform and station of ONLINE and OFFLINE stand behind a presence flag
each, since a gate may have no platform (R152; DESIGN CHOICE, assumption log 32). -/
def GateEvent.items : GateEvent → List Item
  | .online g p st state n => [.u8 0, .u8 g] ++ optU8 p ++ optU8 st ++ [.u8 state.ctorIdx, .u8 n]
  | .offline g p st state n => [.u8 1, .u8 g] ++ optU8 p ++ optU8 st ++ [.u8 state.ctorIdx, .u8 n]
  | .enabled g state => [.u8 2, .u8 g, .u8 state.ctorIdx]
  | .disabled g state => [.u8 3, .u8 g, .u8 state.ctorIdx]
  | .fault g code granted => [.u8 4, .u8 g, .u8 code, flagItem granted]
  | .storeClearing plan => [.u8 5, .u8 plan]
  | .storeReady plan passes ring => [.u8 6, .u8 plan, .u16 passes, .u16 ring]

/-- 11.1: the type and the payload of a report. In the FAULT report of a load result without a failure, kind, index and check
code stand as 0 behind no presence flag (R16; DESIGN CHOICE, assumption log 32). -/
def Report.items : Report → Nat × List Item
  | .trip dep kind before after stop reason xP =>
    (0x40, [.u8 0, .u16 dep] ++ optU8 (kind.map fun k => k.ctorIdx) ++ [.u8 before.ctorIdx, .u8 after.ctorIdx] ++
      optU8 stop ++ [.u8 reason.ctorIdx, .i32 xP])
  | .intervention e cause st dep xP vm vPerm n =>
    (0x41, [.u8 e.ctorIdx] ++ optU8 (cause.map fun c => c.ctorIdx) ++
      [.u8 st.ctorIdx, .u16 dep, .i32 xP, lengthItem vm, lengthItem vPerm, .u8 n])
  | .warning dep xP vm vPerm thr =>
    (0x42, [.u8 0, .u16 dep, .i32 xP, lengthItem vm, lengthItem vPerm, lengthItem thr])
  | .fault cause sev dep xP n st =>
    (0x47, [.u8 0, .u8 cause.ctorIdx, .u8 sev.ctorIdx, .u16 dep, .i32 xP] ++ optU8 n ++ [.u8 st.ctorIdx])
  | .loadFault r f =>
    let g := f.getD (0, 0, 0)
    (0x47, [.u8 1, .u8 r.ctorIdx, .u8 g.1, .u8 g.2.1, .u8 g.2.2])
  | .door car e st auth l r n att flt dep =>
    (0x43, [.u8 e.ctorIdx, .u8 car.ctorIdx] ++ e.extra ++
      [.u8 st.ctorIdx, .u8 (authorityCode auth), .u8 l.ctorIdx, .u8 r.ctorIdx, .u8 n, .u8 (attendantCode att),
        .u8 (carFaultsCode flt), .u16 dep])
  | .window e car p station st dep =>
    (0x44, [.u8 e.ctorIdx] ++ e.extra ++ [.u8 car.ctorIdx, .u8 p, .u8 station, .u8 st.ctorIdx, .u16 dep])
  | .gate e => (0x45, e.items)
  | .position ch mm un mi mark st xP xQ =>
    (0x46, [.u8 (positionEvent ch mm un mi)] ++ optU8 mark ++ [.u8 st.ctorIdx, .i32 xP, .i32 xQ])

/-- 10.1: the bytes of a frame that the part sends; a report has sequence 0. -/
def OutFrame.bytes : OutFrame → List Byte
  | .reply r => framed 0xA5#8 (r.typ :: r.seq :: itemBytes r.body.items)
  | .report r => framed 0xA5#8 (BitVec.ofNat 8 r.items.1 :: 0#8 :: itemBytes r.items.2)

end Sys2Proof.Machine
end

