-- ==== Sys2Proof/Machine/Dispatch.lean ====
section
/-! DEFINITION. What each command does to everything but the queue: one arm for each constructor of Instr. -/

namespace Sys2Proof.Machine
open Sys2Proof

def exec (i : Instr) (s : State) : Host.Outcome State Fault Refusal :=
  match i with
  | .reset => Sys2Proof.Machine.execReset s
  | .loadEnd => Sys2Proof.Machine.execLoadEnd s
  | .configWrite seq payload => Sys2Proof.Machine.execConfigWrite seq payload s
  | .configRemove seq payload => Sys2Proof.Machine.execConfigRemove seq payload s
  | .configRead seq payload => Sys2Proof.Machine.execConfigRead seq payload s
  | .configCommit seq payload => Sys2Proof.Machine.execConfigCommit seq payload s
  | .imageWriteEnd => Sys2Proof.Machine.execImageWriteEnd s
  | .dispatch seq payload => Sys2Proof.Machine.execDispatch seq payload s
  | .stop seq payload => Sys2Proof.Machine.execStop seq payload s
  | .recover seq payload => Sys2Proof.Machine.execRecover seq payload s
  | .referenceRun seq payload => Sys2Proof.Machine.execReferenceRun seq payload s
  | .setClass seq payload => Sys2Proof.Machine.execSetClass seq payload s
  | .brakeReset seq payload => Sys2Proof.Machine.execBrakeReset seq payload s
  | .faultsRead seq payload => Sys2Proof.Machine.execFaultsRead seq payload s
  | .faultsClear seq payload => Sys2Proof.Machine.execFaultsClear seq payload s
  | .doorRelease seq payload => Sys2Proof.Machine.execDoorRelease seq payload s
  | .doorOpen seq payload => Sys2Proof.Machine.execDoorOpen seq payload s
  | .doorClose seq payload => Sys2Proof.Machine.execDoorClose seq payload s
  | .doorCancel seq payload => Sys2Proof.Machine.execDoorCancel seq payload s
  | .carFlags seq payload => Sys2Proof.Machine.execCarFlags seq payload s
  | .setOnboard seq payload => Sys2Proof.Machine.execSetOnboard seq payload s
  | .windowOpen seq payload => Sys2Proof.Machine.execWindowOpen seq payload s
  | .windowClose seq payload => Sys2Proof.Machine.execWindowClose seq payload s
  | .carryClear seq payload => Sys2Proof.Machine.execCarryClear seq payload s
  | .gateEnable seq payload => Sys2Proof.Machine.execGateEnable seq payload s
  | .passLoad seq payload => Sys2Proof.Machine.execPassLoad seq payload s
  | .passDelete seq payload => Sys2Proof.Machine.execPassDelete seq payload s
  | .passRead seq payload => Sys2Proof.Machine.execPassRead seq payload s
  | .cursorSet seq payload => Sys2Proof.Machine.execCursorSet seq payload s
  | .denyAdd seq payload => Sys2Proof.Machine.execDenyAdd seq payload s
  | .denyRemove seq payload => Sys2Proof.Machine.execDenyRemove seq payload s
  | .tokenFlush seq payload => Sys2Proof.Machine.execTokenFlush seq payload s
  | .storePlan seq payload => Sys2Proof.Machine.execStorePlan seq payload s
  | .setDay seq payload => Sys2Proof.Machine.execSetDay seq payload s
  | .setClock seq payload => Sys2Proof.Machine.execSetClock seq payload s
  | .status seq payload => Sys2Proof.Machine.execStatus seq payload s
  | .restart seq payload => Sys2Proof.Machine.execRestart seq payload s
  | .unknownRequest seq typ => Sys2Proof.Machine.execUnknownRequest seq typ s
  | .discardedFrame why => Sys2Proof.Machine.execDiscardedFrame why s
  | .byteGapTimeout => Sys2Proof.Machine.execByteGapTimeout s
  | .frameSent => Sys2Proof.Machine.execFrameSent s
  | .encoderCount channel delta => Sys2Proof.Machine.execEncoderCount channel delta s
  | .sample => Sys2Proof.Machine.execSample s
  | .markEvent number => Sys2Proof.Machine.execMarkEvent number s
  | .brakeFeedback brake reading => Sys2Proof.Machine.execBrakeFeedback brake reading s
  | .applyTimerExpiry brake => Sys2Proof.Machine.execApplyTimerExpiry brake s
  | .escalationTimerExpiry => Sys2Proof.Machine.execEscalationTimerExpiry s
  | .ebLiftTimeout => Sys2Proof.Machine.execEbLiftTimeout s
  | .tPrepExpiry => Sys2Proof.Machine.execTPrepExpiry s
  | .tLiftExpiry => Sys2Proof.Machine.execTLiftExpiry s
  | .driveStatus record => Sys2Proof.Machine.execDriveStatus record s
  | .carStatus car record => Sys2Proof.Machine.execCarStatus car record s
  | .livenessTimerExpiry car => Sys2Proof.Machine.execLivenessTimerExpiry car s
  | .carCommandTimer car => Sys2Proof.Machine.execCarCommandTimer car s
  | .weighExpiry car => Sys2Proof.Machine.execWeighExpiry car s
  | .tCloseExpiry car => Sys2Proof.Machine.execTCloseExpiry car s
  | .nothing gate => Sys2Proof.Machine.execNothing gate s
  | .present gate credential => Sys2Proof.Machine.execPresent gate credential s
  | .creditRequest gate => Sys2Proof.Machine.execCreditRequest gate s
  | .passed gate => Sys2Proof.Machine.execPassed gate s
  | .abandoned gate => Sys2Proof.Machine.execAbandoned gate s
  | .gateFault gate code => Sys2Proof.Machine.execGateFault gate code s
  | .pollTimeout => Sys2Proof.Machine.execPollTimeout s
  | .passageTimeout gate => Sys2Proof.Machine.execPassageTimeout gate s
  | .clockTick => Sys2Proof.Machine.execClockTick s
  | .storeClearEnd => Sys2Proof.Machine.execStoreClearEnd s
  | .invalidLinkRecord link => Sys2Proof.Machine.execInvalidLinkRecord link s
  | .linkGapTimeout link => Sys2Proof.Machine.execLinkGapTimeout link s
  | .linkRecordSent link => Sys2Proof.Machine.execLinkRecordSent link s
  | .incomingByte byte => Sys2Proof.Machine.execIncomingByte byte s
  | .linkIncomingByte link byte => Sys2Proof.Machine.execLinkIncomingByte link byte s

end Sys2Proof.Machine
end

