-- ==== Sys2Proof/WellFormed.lean ====
section
/-! DEFINITION. Which commands can arrive: the ranges that the links and the events themselves give to the operands of a
command (10.1, 11.1, 11.2). A request whose payload fails its own tests is well-formed: it is answered LENGTH or RANGE. -/

namespace Sys2Proof

/-- 10.1: a frame carries a payload of 0 to 250 bytes. -/
def payloadFits (p : List Byte) : Bool := decide (p.length ≤ 250)

/-- 11.1: the remove flag of a CONFIG WRITE payload, its third byte. -/
def removeFlag (p : List Byte) : Option Byte := p[2]?

/-- 11.1: the request types. -/
def requestTypes : List Nat :=
  [0x01, 0x02, 0x03, 0x10, 0x11, 0x12, 0x13, 0x14, 0x18, 0x19, 0x1A, 0x20, 0x21, 0x22, 0x23, 0x24, 0x25, 0x28, 0x29, 0x2A,
   0x2C, 0x30, 0x31, 0x32, 0x33, 0x34, 0x35, 0x36, 0x37, 0x38, 0x39, 0x3E, 0x3F]

/-- R174: a type below 0x80 that is not a request type. -/
def unknownType (t : Byte) : Bool := decide (t.toNat < 0x80) && !requestTypes.contains t.toNat

/-- 9.1: a gate address. -/
def gateAddress (g : Nat) : Bool := decide (1 ≤ g) && decide (g ≤ 12)

/-- 11.2: the torque of a valid drive status record. -/
def torqueFits (t : Int) : Bool := decide (-100 ≤ t) && decide (t ≤ 100)

/-- The command can arrive. -/
def Instr.wellFormed : Instr → Bool
  | .configWrite _ p => payloadFits p && removeFlag p != some 1#8
  | .configRemove _ p => payloadFits p && removeFlag p == some 1#8
  | .configRead _ p | .configCommit _ p | .dispatch _ p | .stop _ p | .recover _ p | .referenceRun _ p | .setClass _ p
  | .brakeReset _ p | .faultsRead _ p | .faultsClear _ p | .doorRelease _ p | .doorOpen _ p | .doorClose _ p
  | .doorCancel _ p | .carFlags _ p | .setOnboard _ p | .windowOpen _ p | .windowClose _ p | .carryClear _ p
  | .gateEnable _ p | .passLoad _ p | .passDelete _ p | .passRead _ p | .cursorSet _ p | .denyAdd _ p | .denyRemove _ p
  | .tokenFlush _ p | .storePlan _ p | .setDay _ p | .setClock _ p | .status _ p | .restart _ p => payloadFits p
  | .unknownRequest _ t => unknownType t
  | .encoderCount _ delta => delta != 0
  | .markEvent n => decide (n < 256)
  | .driveStatus r => torqueFits r.torque
  | .nothing g | .present g _ | .creditRequest g | .passed g | .abandoned g | .gateFault g _ | .passageTimeout g =>
    gateAddress g
  | .reset | .loadEnd | .imageWriteEnd | .discardedFrame _ | .byteGapTimeout | .frameSent | .sample | .brakeFeedback _ _
  | .applyTimerExpiry _ | .escalationTimerExpiry | .ebLiftTimeout | .tPrepExpiry | .tLiftExpiry | .carStatus _ _
  | .livenessTimerExpiry _ | .carCommandTimer _ | .weighExpiry _ | .tCloseExpiry _ | .pollTimeout | .clockTick
  | .storeClearEnd | .invalidLinkRecord _ | .linkGapTimeout _ | .linkRecordSent _ | .incomingByte _
  | .linkIncomingByte _ _ => true

end Sys2Proof
end

