-- ==== Sys2Proof/Safety.lean ====
section
/-! DEFINITION. What the statements speak of: the properties of a state that every command keeps, and the state in which the
port takes a request, the state in which both cars are secured, and the bytes of what arrives on a link. -/

namespace Sys2Proof.Machine

open Sys2Proof

/-! ### Properties that every command keeps -/

/-- R94, R96, R101: in SERVICE and in EMERGENCY, SB is commanded APPLIED and DE is OFF; in EMERGENCY, EB is commanded
APPLIED as well. -/
def State.LatchLaw (s : State) : Prop :=
  (s.brake.latch = true → s.brake.sb.command = .applied ∧ s.brake.de = false) ∧
    (s.brake.state = .emergency → s.brake.eb.command = .applied)

/-- R91, R92, R93: DE is ON or SB is commanded LIFTED only under the output permission; SB is commanded LIFTED only with
DE ON. -/
def State.PermissionLaw (s : State) : Prop :=
  ((s.brake.de = true ∨ s.brake.sb.command = .lifted) → s.permission = true) ∧
    (s.brake.sb.command = .lifted → s.brake.de = true)

/-- R75: the reference speed is 0 outside RUNNING and CREEPING, and never exceeds the larger of 0 and v_perm − V_pm, where
v_perm is that of the envelope result in force. A trip that is lifting, running or creeping has its record (R64). -/
def State.ReferenceLaw (s : State) : Prop :=
  (s.trip.state.hauling = false → s.trip.vRef = 0) ∧
    (s.trip.state.hauling = true ∨ s.trip.state = .lifting → s.trip.record.isSome = true) ∧
    ∀ d, s.cfg.active = some d → s.trip.vRef ≤ s.env.result.vPerm - d.margin.profileMargin

/-- R58: v_perm never exceeds 15,000, the zone limit term of the latest result (R56) or the class cap in force, and it is 0
whenever no trip is in RUNNING, CREEPING or INTERVENED. -/
def State.EnvelopeLaw (s : State) : Prop :=
  (¬(s.trip.state = .running ∨ s.trip.state = .creeping ∨ s.trip.state = .intervened) → s.env.vPerm = 0) ∧
    s.env.vPerm ≤ 15000 ∧ s.env.vPerm ≤ s.env.result.zoneTerm ∧ ∀ cap, s.env.cap = some cap → s.env.vPerm ≤ cap

/-- R102: the capture list holds at most 4 entries, no two of one cause. -/
def State.CaptureLaw (s : State) : Prop :=
  s.brake.captures.length ≤ Config.captureSize ∧ (s.brake.captures.map (·.cause)).Nodup

/-- R176, R177, R11: the reply queue holds at most 4 replies beside a held COMMIT reply, and the report queue at most 32
reports. While a reply is held, the queue still takes it. -/
def State.QueueLaw (s : State) : Prop :=
  s.port.reports.length ≤ Config.reportQueueSize ∧ s.port.replies.length ≤ Config.replyQueueSize + 1 ∧
    (s.cfg.held.isSome = true → s.port.replies.length ≤ Config.replyQueueSize)

/-- R163, R167, R168, R170: the pass records stand in strict id order within the capacity of the plan; the spent-token
ring holds no id twice and is within its capacity; the deny list holds at most 128 different entries; day and clock are in
range. -/
def State.StoreLaw (s : State) : Prop :=
  (s.store.passes.map (·.id)).Pairwise (· < ·) ∧ s.store.passes.length ≤ passCapacity s.store.plan ∧
    s.store.ring.Nodup ∧ s.store.ring.length ≤ ringCapacity s.store.plan ∧
    s.store.deny.Nodup ∧ s.store.deny.length ≤ Config.denySize ∧ s.store.day ≤ 65535 ∧ s.store.clock ≤ 86399

/-- The number of a car's grants in flight. -/
def State.grantsOf (s : State) (c : Car) : Nat := (s.board.grants.filter fun g => g.car == c).length

/-- R144, R145: the grants in flight stand in strict order of gate address (DESIGN CHOICE, assumption log 53), so that a gate
has at most one. -/
def State.GrantLaw (s : State) : Prop := (s.board.grants.map (·.gate)).Pairwise (· < ·)

/-- R133, R150: the inflight count of a window is the number of the car's grants in flight, 0 while SHUT, and every grant
given in the window is committed, unverified, released or in flight. -/
def State.CountLaw (s : State) : Prop :=
  ∀ c : Car, (s.window c).inflight = s.grantsOf c ∧ ((s.window c).state = .shut → (s.window c).inflight = 0) ∧
    (s.window c).granted =
      (s.window c).committed + (s.window c).unverified + (s.window c).released + (s.window c).inflight

/-- R120: a car holds authority only while its link is LIVE, the trip state is PARKED or PREPARING, the position CONFIRMED
and settled in the latest view, SB is commanded APPLIED and its contact reads APPLIED, and the stop names a platform for it; the
latest view reports the car at that stop, unless an activation has come since (R14; DEDUCED, assumption logs 22 and 56). Its door
state is RELEASED or OPEN only under authority (R119). While LOADING there is no active configuration (R1). -/
def State.AuthorityLaw (s : State) : Prop :=
  (s.cfg.commit = .loading → s.cfg.active = none) ∧
    ∀ c : Car,
      ((s.door.get c).authority.isSome = true →
        (s.link.get c).live = true ∧ (s.trip.state.isParked = true ∨ s.trip.state = .preparing) ∧
          s.pos.view.pos = .confirmed ∧ s.pos.view.settled = true ∧ s.brake.sb.command = .applied ∧
          s.brake.sb.feedback = .applied ∧ (s.carPlatform c).isSome = true ∧
          (s.pos.oldWindows = none → s.pos.view.atStop = s.carStop)) ∧
      ((s.door.get c).state = .released ∨ (s.door.get c).state = .opened → (s.door.get c).authority.isSome = true)

/-- R130: for a car whose link is LIVE, each memory flag stands as its condition. -/
def State.ViolationLaw (s : State) : Prop :=
  ∀ c : Car, (s.link.get c).live = true → (s.door.get c).memUnlocked = s.unlockedRun c ∧
    (s.door.get c).memNoAuthority = s.openWithoutAuthority c ∧ (s.door.get c).memWrongSide = s.wrongSideOpen c

/-- R137, R143, R6: outside IDLE both windows are SHUT; a window is OPEN only while its car holds authority; a SHUT window has
no pending passenger; and pending + inflight never exceeds the capacity of the car. -/
def State.BoardLaw (s : State) : Prop :=
  (s.cfg.commit ≠ .idle → s.board.windows.a.state = .shut ∧ s.board.windows.b.state = .shut) ∧
    ∀ c : Car,
      ((s.window c).state = .opened → (s.door.get c).authority.isSome = true) ∧
      ((s.window c).state = .shut → (s.window c).pending = 0) ∧
      ∀ d, s.cfg.active = some d → (s.window c).pending + (s.window c).inflight ≤ d.car.capacity

/-! ### When BRAKE RESET is accepted with an effect -/

/-- R100: no row of BRAKE RESET refuses it, and the latch is set or EB is commanded APPLIED. -/
def State.BrakeResetOpen (s : State) : Prop :=
  s.unconfigured = false ∧ s.brake.ebLift = none ∧ (s.trip.state.isParked = true ∨ s.trip.state = .stranded) ∧
    s.pos.view.settled = true ∧ s.trip.driveLast ≠ .fault ∧ s.trip.driveLostNow = false ∧ s.link.a.live = true ∧
    s.link.b.live = true ∧ s.brake.sb.stuck = false ∧ s.brake.eb.stuck = false ∧
    (s.brake.latch = true ∨ s.brake.eb.command = .applied)

/-! ### The checks of a draft (R7 to R10) -/

/-- R9: record `j` is the present record of a kind at the next lower index than `i`. -/
def Draft.Previous (d : Draft) (k : Kind) (i j : Nat) : Prop :=
  j < i ∧ d.has k j = true ∧ ∀ l, j < l → l < i → d.has k l = false

/-- R7 to R10: record `i` of kind `k` fails the check of a code. Field numbers are those of 1.3. -/
def Draft.FailsCheck (d : Draft) (k : Kind) (i : Nat) : Nat → Prop
  | 1 => d.has k i = false ∧ ((i = 0 ∧ (k = .line ∨ k = .car ∨ k = .zone ∨ k = .stop)) ∨ (i = 1 ∧ k = .stop))
  | 2 => d.has k i = true ∧ ∃ f ∈ k.specs, f.default = none ∧ ((d.fields? k i).getD []).lookup f.number = none
  | 3 => d.has k i = true ∧ (k = .zone ∨ k = .stop) ∧ 0 < i ∧ d.has k (i - 1) = false
  | 4 =>
    (k = .line ∧ (d.value k i 3 < d.value k i 4 ∨ d.value k i 11 < d.value k i 10 ∨ d.value k i 2 < d.value k i 6)) ∨
    (k = .margin ∧ (d.value k i 3 < d.value k i 1 ∨ d.value k i 4 < d.value k i 2)) ∨
    (k = .profile ∧ (d.value .line 0 2 < d.value k i 4 ∨ d.value k i 4 < d.value k i 2)) ∨
    (k = .zone ∧ d.value .line 0 2 < d.value k i 2) ∨
    (k = .platform ∧ d.value .line 0 1 < d.value k i 3)
  | 5 => k = .zone ∧ d.has k i = true ∧
    ((i = 0 ∧ d.value k i 1 ≠ 0) ∨ (∃ j, d.Previous k i j ∧ d.value k i 1 ≤ d.value k j 1) ∨
      d.value .line 0 1 ≤ d.value k i 1)
  | 6 => k = .stop ∧ d.has k i = true ∧
    ((i = 0 ∧ d.value k i 1 ≠ 0) ∨
      (∃ j, d.Previous k i j ∧ d.value k i 1 ≤ d.value k j 1 + 2 * d.value .line 0 8) ∨
      ((∀ j, i < j → j < 4 → d.has k j = false) ∧ d.value k i 1 ≠ d.value .line 0 1))
  | 7 => k = .stop ∧ d.has k i = true ∧
    ∃ f p, (f = 2 ∨ f = 3) ∧ p = d.value k i f ∧ p ≠ 255 ∧
      (d.has .platform p = false ∨ d.value .platform p 2 ≠ (if f = 2 then 0 else 1) ∨
        (∃ j, j < i ∧ d.has k j = true ∧ (d.value k j 2 = p ∨ d.value k j 3 = p)) ∨
        d.value .line 0 8 < distance (d.value .platform p 3)
          (if f = 2 then (d.value k i 1 : Int) else (d.value .line 0 1 : Int) - d.value k i 1))
  | 8 => k = .platform ∧ d.has k i = true ∧
    ∀ j, j < 4 → d.has .stop j = true → d.value .stop j 2 ≠ i ∧ d.value .stop j 3 ≠ i
  | 9 => k = .mark ∧ d.has k i = true ∧
    (d.value .line 0 1 < d.value k i 1 ∨
      ∃ j, d.Previous k i j ∧ d.value k i 1 ≤ d.value k j 1 + 2 * d.value .line 0 11)
  | 10 => k = .gate ∧ d.has k i = true ∧ d.has .platform (d.value k i 1) = false
  | _ => False

/-! ### Timers as STATUS shows them -/

/-- 11.1: a timer that does not run shows 4294967295, and one that runs a time left up to the period it was started with (a free
value, assumption log 3). -/
def TimeLeft (period : Option Nat) (shown : Item) : Prop :=
  (period = none → shown = .u32 4294967295) ∧ ∀ p, period = some p → ∃ left, left ≤ p ∧ shown = .u32 left

/-! ### How a request of the host is taken -/

/-- R174, R176, R179: the port takes a request frame and its owner decides on it: no RESTART is pending, the reply queue
has room, and no load is in progress. -/
abbrev State.TakesRequests (s : State) : Prop :=
  s.port.restarting = false ∧ s.port.replies.length < Config.replyQueueSize ∧ s.cfg.commit ≠ .loading

/-- The state in which the owner of a request decides: the assembler is back in HUNT. -/
def State.hunting (s : State) : State := s.modPort Port.hunt

/-- The state after a request without a further effect: its reply joined the queue, and no figures are passing (DESIGN CHOICE,
assumption log 44). -/
def State.replied (s : State) (typ seq : Byte) (b : ReplyBody) : State :=
  s.hunting.figuresSettled.reply ⟨replyType typ, seq, b⟩

/-- The state after a request without a further effect, where `f` are the passing figures; these are the model's own and are
left open (assumption log 44). -/
abbrev State.afterReply (s : State) (typ seq : Byte) (b : ReplyBody) (f : Option LoadFigures) : State :=
  { s.replied typ seq b with load := { s.load with passing := f } }

/-- R160: the credential requests are decided: the part is configured and the store is READY. -/
abbrev State.StoreOpen (s : State) : Prop := s.unconfigured = false ∧ s.store.state = .ready

/-! ### The gate bus -/

/-- R158: the reason of the first check that fails for a PRESENT, in the verdict order up to step 7. -/
def State.failedVerdict (s : State) (g : Nat) (x : Credential) : Option RefuseReason :=
  if (s.gate g).state = .disabled ∨ s.store.state ≠ .ready then some .outOfService
  else if (s.grantAt g).isSome = true then some .gateBusy
  else if ¬∃ p, (s.gate g).platform = some p ∧
      ((s.board.windows.a.state = .opened ∧ s.board.windows.a.platform = some p) ∨
        (s.board.windows.b.state = .opened ∧ s.board.windows.b.platform = some p)) then some .noCar
  else if (s.store.class? (s.classInUse x)).enabled = false then some .classBlocked
  else if ∃ e ∈ s.store.deny, e.covers x.kind x.id.toNat = true then some .denied
  else
    match x.kind with
    | .pass =>
      match s.store.pass? x.id.toNat with
      | none => some .unknownPass
      | some p =>
        if s.store.day < p.firstDay ∨ p.lastDay < s.store.day then some .expired
        else if p.rides = 0 then some .noRides
        else if ∃ e, p.lastEntry = some e ∧ ∃ d, s.cfg.active = some d ∧ ∃ t, d.timing.passbackS = some t ∧
            ((s.store.day : Int) - e.1) * 86400 + ((s.store.clock : Int) - e.2) < (t : Int) then some .passback
        else none
    | .token =>
      if x.issueDay.toNat ≠ s.store.day then some .wrongDay
      else if x.id.toNat ∈ s.store.ring then some .spent
      else none

/-- R153: address `h` is the one polled next: the next higher address after the poll position whose gate is not DISABLED, or
where there is none the lowest. -/
def State.NextPoll (s : State) (h : Nat) : Prop :=
  1 ≤ h ∧ h ≤ 12 ∧ (s.gate h).state ≠ .disabled ∧
    ((s.bus.position < h ∧ ∀ k, s.bus.position < k → k < h → (s.gate k).state = .disabled) ∨
      ((∀ k, s.bus.position < k → k ≤ 12 → (s.gate k).state = .disabled) ∧
        ∀ k, 1 ≤ k → k < h → (s.gate k).state = .disabled))

/-- R153, R155, R157: in state `t` the bus has gone on from state `s`, with what is sent joining the port `l` of the gate bus. The
next address is polled, and its POLL carries the lock flag; no poll goes out while a decision is open (`deciding`), nor where all
twelve gates are DISABLED. -/
abbrev State.PollsAfter (s t : State) (deciding : Prop) (l : LinkPort) : Prop :=
  (¬deciding → s.cfg.commit ≠ .loading → ∀ h, s.NextPoll h →
      t.bus.position = h ∧ t.bus.outstanding = some (h, (t.gate h).lock) ∧
        t.wires = { s.wires with gateBus := l.push (.poll h (t.gate h).lock) }) ∧
    ((deciding ∨ ∀ h, 1 ≤ h → h ≤ 12 → (s.gate h).state = .disabled) →
      t.bus.position = s.bus.position ∧ t.bus.outstanding = none ∧ t.wires = { s.wires with gateBus := l })

/-- R153: the bus goes on where the gates keep their decisions. -/
abbrev State.PollsOn (s t : State) (l : LinkPort) : Prop := s.PollsAfter t (∃ e ∈ s.bus.gates, e.decision.isSome = true) l

/-- R157: a decision is open at another gate than `g`. -/
abbrev State.DecidingBeside (s : State) (g : Nat) : Prop :=
  ∃ j e, s.bus.gates[j]? = some e ∧ j + 1 ≠ g ∧ e.decision.isSome = true

/-- R172, R181: the gate bus port after a complete record: its assembler is back in HUNT. -/
def State.gatePort (s : State) : LinkPort := { s.wires.gateBus with rx := ⟨.hunt, 0, [], false⟩ }

/-! ### Doors at rest -/

/-- R119: the door of a car is LOCKED on both sides, without authority and without an arrival that waits for it. -/
abbrev DoorCtl.Secure (d : DoorCtl) : Prop :=
  d.state = .locked ∧ d.authority = none ∧ d.left = .locked ∧ d.right = .locked ∧ d.arrival = false

/-- Both cars' doors are secure, both windows are SHUT, and no internal notice waits (DESIGN CHOICE, assumption log 5). -/
abbrev State.Secured (s : State) : Prop :=
  s.door.a.Secure ∧ s.door.b.Secure ∧ s.board.windows.a.state = .shut ∧ s.board.windows.b.state = .shut ∧ s.notices = []

/-- R120: every car that holds authority meets the authority conditions. -/
abbrev State.AuthorityHolds (s : State) : Prop :=
  ∀ c : Car, (s.door.get c).authority.isSome = true → (s.authoritySide c).isSome = true

/-- R14, R120: an activation of `d` that leaves the trip state `st` leaves the car the authority it holds: the stop names a
platform with that door side for it, and the conditions of the view, the service brake and the link hold (DEDUCED,
assumption log 23). -/
abbrev State.MeetsAuthority (s : State) (d : LineDesc) (st : TripState) (c : Car) : Prop :=
  ∃ (k i : Nat) (p : PlatformRec), st = .parked k ∧ d.stopPlatform? k c = some i ∧ d.platform? i = some p ∧
    (s.door.get c).authority = some p.side ∧ s.pos.view.settled = true ∧ s.brake.sb.command = .applied ∧
    s.brake.sb.feedback = .applied ∧ (s.link.get c).live = true

/-- R126, R118: in state `t` a close cycle stands in phase CLOSE with its CLOSE command placed, out of the slot of state `s`. -/
abbrev State.ClosePlaced (s t : State) (d : LineDesc) (c : Car) : Prop :=
  (t.door.get c).cycle = some .close ∧ (t.door.get c).tClose = some d.timing.doorCloseMs ∧
    (t.link.get c).slot = some .closeDoors ∧ (t.link.get c).tag = ((s.link.get c).tag + 1) % 8

/-- R125, R126: in state `t` a close cycle waits in phase WINDOW, and the slot of state `s` is as it was. -/
abbrev State.WindowAwaited (s t : State) (c : Car) : Prop :=
  (t.door.get c).cycle = some .window ∧ (t.door.get c).tClose = none ∧
    (t.link.get c).slot = (s.link.get c).slot ∧ (t.link.get c).tag = (s.link.get c).tag

/-- R137, R138: in state `t` an OPEN window of state `s` is CLOSING with reason PREPARING, or SHUT where it had no grant in
flight; a window that was not OPEN is as it was. -/
abbrev State.ClosesWindow (s t : State) (c : Car) : Prop :=
  ((s.window c).state = .opened → 0 < (s.window c).inflight →
      t.window c = { s.window c with state := .closing, reason := some .preparing }) ∧
    ((s.window c).state = .opened → (s.window c).inflight = 0 →
      t.window c = { s.window c with state := .shut, platform := none, pending := 0, inflight := 0, reason := none }) ∧
    ((s.window c).state ≠ .opened → t.window c = s.window c)

/-- R138, R139, R151: the report of an OPEN window that goes to CLOSING: SHUT at once where no grant is in flight, else CLOSING;
none for a window that is not OPEN. `dep` is the departure number that it carries. -/
def State.closingReport (s : State) (c : Car) (why : CloseReason) (dep : Nat) : State :=
  let w := s.window c
  let p := w.platform.getD 0
  if w.state = .opened then
    if w.inflight = 0 then
      s.report (.window (.shut why w.granted w.committed w.released w.unverified w.carryIn w.pending) c p (s.station p) .shut
        dep)
    else s.report (.window (.closing why w.inflight) c p (s.station p) .closing dep)
  else s

/-- R139, R151: the report SHUT where a window with the counts `w` is CLOSING with no grant left in flight (a CLOSING window has
its reason), and none otherwise. -/
def State.shutReport (s : State) (c : Car) (w : Window) : State :=
  let p := w.platform.getD 0
  if w.state = .closing ∧ w.inflight = 0 then
    s.report (.window (.shut (w.reason.getD .host) w.granted w.committed w.released w.unverified w.carryIn w.pending) c p
      (s.station p) .shut s.recordDeparture)
  else s

/-- R136, R151: the report OPENED of a window that opens at the platform which the car's stop names for the car. -/
def State.openedReport (s : State) (c : Car) : State :=
  match s.cfg.active, s.carPlatform c with
  | some d, some p =>
    s.report (.window (.opened (min (s.board.carry.getD p 0) d.car.capacity) (s.board.carry.getD p 0 - d.car.capacity)) c p
      (s.station p) .opened s.recordDeparture)
  | _, _ => s

/-- R134, R151: the report of a door state that becomes OPEN: OPENED where the window opens by itself. -/
def State.autoReport (s : State) (c : Car) : State :=
  if (s.window c).state = .shut ∧ s.trip.state ≠ .preparing ∧ s.autoWindow c = true ∧ s.cfg.commit ≠ .writing then
    s.openedReport c
  else s

/-- R131: a DOOR report with the door state, the authority and the retry count after the event. -/
def State.carReport (s : State) (c : Car) (e : DoorEvent) (st : DoorState) (auth : Option Side) (n : Nat) : State :=
  s.report (.door c e st auth (s.door.get c).left (s.door.get c).right n (s.link.get c).attendant (s.link.get c).faults
    s.recordDeparture)

/-- R116, R117, R131: the reports of a car status record for its flags, with the door state `st`: CAR_FAULT where the car fault
flags change, then ATTENDANT where the attendant flags do (DESIGN CHOICE, assumption log 16). -/
def State.flagReports (s : State) (c : Car) (st : DoorState) (r : CarStatus) : State :=
  let d := s.door.get c
  let l := s.link.get c
  let u := if l.faults = r.faults then s else
    s.report (.door c .carFault st d.authority d.left d.right d.retry r.attendant r.faults s.recordDeparture)
  if l.attendant = r.attendant then u else
    u.report (.door c (.attendant l.attendant) st d.authority d.left d.right d.retry r.attendant r.faults s.recordDeparture)

/-- R153, R171: the report ONLINE of an OFFLINE gate that answers. -/
def State.onlineReport (s : State) (g : Nat) : State :=
  if (s.gate g).state = .offline then
    s.report (.gate (.online g (s.gate g).platform ((s.gate g).platform.map s.station) .online (s.gate g).missCount))
  else s

/-- R146 to R148 with R139: in state `t` a grant of state `s` is gone and its window holds the counts `w`, or is SHUT where it was
CLOSING and no grant is left in flight; its leftover pending is then the carry-over of its platform. R43: the live figures are
recomputed. -/
abbrev State.GrantGone (s t : State) (x : Grant) (w : Window) : Prop :=
  t.load.live = (s.cfg.active.map fun d => liveFigures d s.link t.board.windows) ∧ t.board =
    if w.state = .closing ∧ w.inflight = 0 then
      { s.board with
        grants := s.board.grants.filter fun y => y.gate != x.gate
        carry := s.board.carry.set (w.platform.getD 0) w.pending
        windows := s.board.windows.set x.car
          { w with state := .shut, platform := none, pending := 0, inflight := 0, reason := none } }
    else
      { s.board with
        grants := s.board.grants.filter fun y => y.gate != x.gate
        windows := s.board.windows.set x.car w }

/-- R139: the end of a grant of this window concerns the boarding controller and the credential store alone: the window does
not shut by it, or no close cycle and no departure waits for its shutting. -/
abbrev State.ShutsAlone (s : State) (c : Car) : Prop :=
  (s.window c).state = .opened ∨ ((s.window c).state = .closing ∧ (1 < (s.window c).inflight ∨
    ((s.door.get c).cycle ≠ some .window ∧ s.trip.state ≠ .preparing)))

/-! ### The zone of a position -/

/-- R53: zone `z` contains position `x`: it is the last zone whose start is at or below it, and zone 0 where there is none. -/
def LineDesc.ZoneOf (d : LineDesc) (x : Int) (z : Nat) : Prop :=
  (∀ w r, d.zones[w]? = some r → z < w → x < r.start) ∧ ∃ r, d.zones[z]? = some r ∧ (z = 0 ∨ (r.start : Int) ≤ x)

/-! ### The restriction list (R52, R53) -/

/-- R52: the start of a zone from 1 upward lies ahead of `p0` in the direction, at or before the destination, and the limit
falls there: it makes a zone entry with this position and target. -/
def LineDesc.BoundaryAhead (d : LineDesc) (dir : Dir) (p0 : Int) (dest pos target : Nat) : Prop :=
  ∃ (z : Nat) (below here : ZoneRec), d.zones[z]? = some below ∧ d.zones[z + 1]? = some here ∧ pos = here.start ∧
    match dir with
    | .up => p0 < (here.start : Int) ∧ here.start ≤ dest ∧ here.speedLimit < below.speedLimit ∧ target = here.speedLimit
    | .down => (here.start : Int) ≤ p0 ∧ dest ≤ here.start ∧ below.speedLimit < here.speedLimit ∧ target = below.speedLimit

/-- R53: `ar` is the smallest of these a_eff values over the zones from that of position `p` to that of a restriction at `pos`,
both included. -/
def LineDesc.SmallestBetween (d : LineDesc) (aEff : List Nat) (p : Int) (pos ar : Nat) : Prop :=
  ∀ a b, d.ZoneOf p a → d.ZoneOf pos b →
    (∀ z, min a b ≤ z → z ≤ max a b → ar ≤ aEff.getD z 0) ∧ ∃ z, min a b ≤ z ∧ z ≤ max a b ∧ ar = aEff.getD z 0

/-! ### What becomes of a departure -/

/-- R69: the reason of the first interlock that fails for a departure, in the order of the table. -/
def State.failedInterlock (s : State) (d : LineDesc) (r : TripRecord) : Option TripReason :=
  if s.brake.latch = true then some .latch
  else if r.kind ≠ .reference ∧ s.pos.view.pos ≠ .confirmed then some .position
  else if s.link.a.live = false ∨ s.link.b.live = false then some .carLink
  else if s.door.a.state ≠ .locked ∨ s.door.b.state ≠ .locked then some .doors
  else if s.trip.driveMissed = 5 ∨ s.trip.driveLast ≠ .ready then some .drive
  else if ¬∃ l, s.load.live = some l ∧ (l.dir r.dir).within = true then some .imbalance
  else if d.door.attended = true ∧ (s.link.a.attendant.ready = false ∨ s.link.b.attendant.ready = false) then
    some .attendant
  else none

/-- R88: the TRIP report of a trip without a record: departure 0 and no kind (DEDUCED, assumption log 17, for a trip that has
just ended). -/
def State.endedReport (s : State) (before after : TripState) (reason : TripReason) : State :=
  s.report (.trip 0 none before after after.stop? reason s.pos.view.xP)

/-- R88: the TRIP report that shows a record. -/
def State.recordReport (s : State) (r : TripRecord) (before after : TripState) (reason : TripReason) : State :=
  s.report (.trip r.departure (some r.kind) before after after.stop? reason s.pos.view.xP)

/-- R67, R70, R88: the state in which the port has taken the reply OK to a departure request of type `typ` and the report
DISPATCHED of the record `r`. -/
def State.dispatched (s : State) (typ seq : Byte) (r : TripRecord) : State :=
  (s.replied typ seq (.plain .ok)).recordReport r s.trip.state .preparing .dispatched

/-- R46, R64, R67 to R69, R71, R72, R88: state `t` is what an accepted departure with record `r` leaves of state `s`, both cars being
secured; the request was of type `typ`. With a HOLD flag of a LIVE car set, step 3 waits; with an interlock failing, the
departure is abandoned with the reason of the first; otherwise the trip enters LIFTING with its cap, its snapshot and the lift
timer. The port has the reply and the TRIP reports in this order. -/
def State.Prepares (s : State) (d : LineDesc) (r : TripRecord) (typ seq : Byte) (t : State) : Prop :=
  t.trip.departures = r.departure ∧ t.board = s.board ∧ t.store = s.store ∧ t.pos = s.pos ∧ t.cfg = s.cfg ∧
    ((s.holds .a = true ∨ s.holds .b = true) →
      t.trip.state = .preparing ∧ t.trip.record = some r ∧ t.trip.step = 3 ∧ t.trip.holdWait = true ∧
        t.trip.tPrep = some d.timing.preparingMs ∧ t.trip.vRef = 0 ∧ t.brake = s.brake ∧ t.load = s.figuresSettled.load ∧
        t.env = s.env ∧ t.bus = s.bus ∧ t.port = (s.dispatched typ seq r).port) ∧
    (s.holds .a = false → s.holds .b = false →
      (∀ reason, s.failedInterlock d r = some reason →
        t.trip.state = s.pos.view.stopWindowState ∧ t.trip.record = none ∧ t.trip.lastAbandon = some reason ∧
          t.brake = s.brake ∧
          t.port = ((s.dispatched typ seq r).endedReport .preparing s.pos.view.stopWindowState reason).port) ∧
      (s.failedInterlock d r = none →
        t.trip.state = .lifting ∧ t.trip.record = some { r with profileCap := some (d.classCap r.cls) } ∧
          t.trip.liftPhase = .drive ∧ t.trip.tLift = some d.timing.brakeLiftMs ∧ t.trip.tPrep = none ∧
          t.env.cap = some (d.classCap r.cls) ∧ t.env.pendingCap = none ∧
          (r.kind = .reference → t.env.list = []) ∧
          (∀ l, s.load.live = some l → ∃ sn, t.load.snapshot = some sn ∧ sn.departure = r.departure ∧
            sn.dir = r.dir ∧ sn.payload = ⟨l.cars.a.payload, l.cars.b.payload⟩ ∧
            sn.fromWeigh = ⟨l.cars.a.fromWeigh, l.cars.b.fromWeigh⟩ ∧ sn.u = (l.dir r.dir).u ∧
            sn.aEff = (l.dir r.dir).aEff) ∧
          t.port = ((s.dispatched typ seq r).recordReport r .preparing .lifting .lifting).port ∧
          t.brake = { s.brake with
            de := s.brake.de || (s.brake.eb.command == .lifted && s.brake.eb.feedback == .lifted) }))

/-- R130: none of the three door violations of a car holds. -/
abbrev State.NoViolation (s : State) (c : Car) : Prop :=
  s.unlockedRun c = false ∧ s.openWithoutAuthority c = false ∧ s.wrongSideOpen c = false

/-! ### Bytes that arrive -/

/-- R172: the bytes of the supervisor link, taken one at a time. -/
def feed (bs : List Byte) (s : State) : Step :=
  bs.foldl (fun o b => match o with
    | .next t => exec (.incomingByte b) t
    | o => o) (.next s)

/-- R181: the bytes of a partner link, taken one at a time. -/
def feedLink (w : PartnerLink) (bs : List Byte) (s : State) : Step :=
  bs.foldl (fun o b => match o with
    | .next t => exec (.linkIncomingByte w b) t
    | o => o) (.next s)

/-- 10.1: the bytes of a frame of the supervisor link. -/
def frameBytes (typ seq : Byte) (p : List Byte) : List Byte := framed 0xA5#8 (typ :: seq :: p)

/-- 11.1: the command that a frame is. -/
def frameCommand (typ seq : Byte) (p : List Byte) : Instr :=
  match typ.toNat with
  | 0x01 => if removeFlag p = some 1#8 then .configRemove seq p else .configWrite seq p
  | 0x02 => .configRead seq p
  | 0x03 => .configCommit seq p
  | 0x10 => .dispatch seq p
  | 0x11 => .stop seq p
  | 0x12 => .recover seq p
  | 0x13 => .referenceRun seq p
  | 0x14 => .setClass seq p
  | 0x18 => .brakeReset seq p
  | 0x19 => .faultsRead seq p
  | 0x1A => .faultsClear seq p
  | 0x20 => .doorRelease seq p
  | 0x21 => .doorOpen seq p
  | 0x22 => .doorClose seq p
  | 0x23 => .doorCancel seq p
  | 0x24 => .carFlags seq p
  | 0x25 => .setOnboard seq p
  | 0x28 => .windowOpen seq p
  | 0x29 => .windowClose seq p
  | 0x2A => .carryClear seq p
  | 0x2C => .gateEnable seq p
  | 0x30 => .passLoad seq p
  | 0x31 => .passDelete seq p
  | 0x32 => .passRead seq p
  | 0x33 => .cursorSet seq p
  | 0x34 => .denyAdd seq p
  | 0x35 => .denyRemove seq p
  | 0x36 => .tokenFlush seq p
  | 0x37 => .storePlan seq p
  | 0x38 => .setDay seq p
  | 0x39 => .setClock seq p
  | 0x3E => .status seq p
  | 0x3F => .restart seq p
  | _ => .unknownRequest seq typ

/-- 11.2: the code of a door report. -/
def doorReportCode : DoorReport → Byte
  | .locked => 0
  | .closed => 1
  | .moving => 2
  | .standingOpen => 3
  | .obstructed => 4

/-- 11.2: the status byte of a DRIVE STATUS record. -/
def driveCodeOf : DriveReading → Byte
  | .ready => 1
  | .running => 2
  | .fault => 3

/-- 11.2: the content (kind and fields) of a CAR STATUS record. -/
def carStatusContent (r : CarStatus) : List Byte :=
  [0x21#8, doorReportCode r.left, doorReportCode r.right, BitVec.ofNat 8 r.tag.val] ++ bytes16 r.inCounter.toNat ++
    bytes16 r.outCounter.toNat ++ [BitVec.ofNat 8 (flagCode r.weigh.isSome)] ++ bytes16 ((r.weigh.getD 0).toNat) ++
    [BitVec.ofNat 8 (attendantCode r.attendant), BitVec.ofNat 8 (carFaultsCode r.faults)]

/-- 11.2: the content of a PRESENT answer. -/
def credentialContent (g : Nat) (x : Credential) : List Byte :=
  [0x11#8, BitVec.ofNat 8 g, (match x.kind with
    | .pass => 0#8
    | .token => 1#8)] ++ bytes32 x.id.toNat ++ [BitVec.ofNat 8 x.fareClass.val] ++ bytes16 x.issueDay.toNat

/-- 11.2: the link and the content of a command that is a valid record of a partner link. -/
def linkContent : Instr → Option (PartnerLink × List Byte)
  | .carStatus c r => some (carWire c, carStatusContent r)
  | .driveStatus r => some (.driveLine, [0x31#8, driveCodeOf r.status, r.faultCode, BitVec.ofInt 8 r.torque])
  | .nothing g => some (.gateBus, [0x10#8, BitVec.ofNat 8 g])
  | .present g x => some (.gateBus, credentialContent g x)
  | .passed g => some (.gateBus, [0x12#8, BitVec.ofNat 8 g])
  | .abandoned g => some (.gateBus, [0x13#8, BitVec.ofNat 8 g])
  | .gateFault g code => some (.gateBus, [0x14#8, BitVec.ofNat 8 g, code])
  | _ => none

end Sys2Proof.Machine
end

