-- ==== Sys2Proof/Certificates/Slice0/Obligations.lean ====
section
/-! DEFINITION. The statements about the part. -/

section

open Sys2Proof Sys2Proof.Machine

/-! ### The step and the queue -/

/-- The command at the front of the queue is run on the state with the queue's rest; on an empty queue the part idles. The
queue is the model's own, DESIGN CHOICE, assumption log 1. -/
def Obligations.StepRunsTheFrontCommand : Prop :=
  ∀ (c : Instr) (rest : List Instr) (s : State),
    step { s with pending := c :: rest } = exec c { s with pending := rest } ∧
      step { s with pending := [] } = .next { s with pending := [] }

/-- No command touches the queue of commands that wait. The queue is the model's own, DESIGN CHOICE, assumption log 1. -/
def Obligations.CommandsLeaveTheQueue : Prop :=
  ∀ (c : Instr) (s t : State), exec c s = .next t → t.pending = s.pending

/-! ### Properties that every step keeps -/

/-- R94, R96, R101, R89: a step keeps the outputs of SERVICE and EMERGENCY. EB once commanded APPLIED stays so until a BRAKE
RESET is accepted: a step after which EB is commanded LIFTED again runs a BRAKE RESET that no row of R100 refuses, as a
command, or as the byte that completes its frame (R172, R173): the assembler is in BODY, and the bytes since the start byte
are those of a frame of type 0x18 without payload. -/
def Obligations.EveryStepKeepsTheLatchedOutputs : Prop :=
  ∀ s t : State, step s = .next t →
    (s.LatchLaw → t.LatchLaw) ∧
    (s.brake.eb.command = .applied → t.brake.eb.command = .lifted →
      ((∃ seq rest, s.pending = .brakeReset seq [] :: rest) ∨
          ∃ seq b rest, s.pending = .incomingByte b :: rest ∧ s.port.rx.phase = .body ∧ s.port.rx.length = 2 ∧
            0xA5#8 :: 2#8 :: (s.port.rx.stored ++ [b]) = frameBytes 0x18#8 seq []) ∧
        s.TakesRequests ∧ s.BrakeResetOpen)

/-- R91, R92, R93: after a step, DE is ON or SB commanded LIFTED only under the output permission. -/
def Obligations.EveryStepKeepsTheOutputPermission : Prop :=
  ∀ s t : State, s.PermissionLaw → step s = .next t → t.PermissionLaw

/-- R144 to R150, R133: a step keeps one grant a gate, and every window's counts balanced. R120, R119: it keeps authority to
cars whose link is LIVE, in PARKED or PREPARING, settled at their stop, with SB and its contact APPLIED; that the at-stop
reading counts from the first view after an activation on follows R14 (DEDUCED, assumption logs 22 and 56). R130: it keeps
the memory flags of a LIVE car equal to the three violation conditions. R137, R143: it keeps a window OPEN only while its car
holds authority, and pending + inflight within the capacity. That the grants stand in order of gate address is DESIGN CHOICE,
assumption log 53. -/
def Obligations.EveryStepKeepsThePassageCounts : Prop :=
  ∀ s t : State, step s = .next t →
    (s.GrantLaw → s.CountLaw → t.GrantLaw ∧ t.CountLaw) ∧ (s.AuthorityLaw → t.AuthorityLaw) ∧
    (s.ViolationLaw → t.ViolationLaw) ∧
    (s.GrantLaw → s.CountLaw → s.AuthorityLaw → s.BoardLaw → t.BoardLaw)

/-- R102, R75: a step leaves at most 4 capture entries, no two of one cause; and v_ref 0 outside RUNNING and CREEPING, and
never above the larger of 0 and v_perm − V_pm. R58, R56, R57: it keeps v_perm at or below 15,000, the zone limit term of the
latest result and the class cap in force, and 0 outside RUNNING, CREEPING and INTERVENED. -/
def Obligations.EveryStepKeepsCapturesAndReference : Prop :=
  ∀ s t : State, step s = .next t →
    (s.CaptureLaw → t.CaptureLaw) ∧ (s.ReferenceLaw → t.ReferenceLaw) ∧ (s.EnvelopeLaw → t.EnvelopeLaw)

/-- R176, R177: a step leaves both queues of the supervisor link within their sizes: at most 32 reports, and at most 4
replies, or 5 where the held COMMIT reply has joined a full queue. -/
def Obligations.EveryStepKeepsTheQueueSizes : Prop :=
  ∀ s t : State, s.QueueLaw → step s = .next t → t.QueueLaw

/-- R163, R167, R168, R170: a step leaves the lists of the credential store in order and within their sizes. -/
def Obligations.EveryStepKeepsTheStoreLists : Prop :=
  ∀ s t : State, s.StoreLaw → step s = .next t → t.StoreLaw

/-- Every one of these properties holds right after a reset, whatever the image and the feedback contacts read. -/
def Obligations.ResetMeetsEveryLaw : Prop :=
  ∀ (image : Image) (sb eb : Contact), (State.resetWith image sb eb).LatchLaw ∧
    (State.resetWith image sb eb).PermissionLaw ∧ (State.resetWith image sb eb).GrantLaw ∧
    (State.resetWith image sb eb).CountLaw ∧ (State.resetWith image sb eb).ReferenceLaw ∧
    (State.resetWith image sb eb).CaptureLaw ∧ (State.resetWith image sb eb).QueueLaw ∧
    (State.resetWith image sb eb).StoreLaw ∧ (State.resetWith image sb eb).AuthorityLaw ∧
    (State.resetWith image sb eb).BoardLaw ∧ (State.resetWith image sb eb).EnvelopeLaw ∧
    (State.resetWith image sb eb).ViolationLaw

/-! ### Bytes -/

/-- R172 to R174, R181 with 10.1 and 11.1: the bytes of a frame, taken one at a time by an assembler in HUNT, do exactly what
the command of that frame does. -/
def Obligations.FrameBytesGiveTheirCommand : Prop :=
  ∀ (s : State) (typ seq : Byte) (p : List Byte), p.length ≤ 250 → s.port.rx.phase = .hunt →
    feed (frameBytes typ seq p) s = exec (frameCommand typ seq p) s

/-- R181 with 11.2: the bytes of a valid record, taken one at a time by a link's assembler in HUNT, do exactly what the
command of that record does. -/
def Obligations.LinkBytesGiveTheirCommand : Prop :=
  ∀ (s : State) (c : Instr) (w : PartnerLink) (content : List Byte), c.wellFormed = true →
    linkContent c = some (w, content) → (s.wires.get w).rx.phase = .hunt →
    feedLink w (framed 0xC3#8 content) s = exec c s

/-- R172, R181: what one byte does to an assembler before a frame or a record is complete; a bad length byte of a partner
link is a failed record. That no byte-gap timer runs between the start byte and the length byte is DEDUCED, assumption log
28. That no figures are passing afterwards is DESIGN CHOICE, assumption log 44. -/
def Obligations.IncomingByteMovesTheAssembler : Prop :=
  ∀ (s : State) (w : PartnerLink) (b : Byte), s.port.restarting = false →
    ((s.wires.get w).rx.phase = .hunt → b ≠ 0xC3#8 → exec (.linkIncomingByte w b) s = .next s) ∧
    ((s.wires.get w).rx.phase = .hunt → b = 0xC3#8 →
      exec (.linkIncomingByte w b) s =
        .next { s with wires := s.wires.set w { s.wires.get w with rx := ⟨.header, 0, [], false⟩ } }) ∧
    ((s.wires.get w).rx.phase = .header → 1 ≤ b.toNat → b.toNat ≤ 32 →
      exec (.linkIncomingByte w b) s =
        .next { s with wires := s.wires.set w { s.wires.get w with rx := ⟨.body, b.toNat, [], true⟩ } }) ∧
    ((s.wires.get w).rx.phase = .header → ¬(1 ≤ b.toNat ∧ b.toNat ≤ 32) →
      exec (.linkIncomingByte w b) s = exec (.invalidLinkRecord w) s) ∧
    ((s.wires.get w).rx.phase = .body → (s.wires.get w).rx.stored.length + 1 ≠ (s.wires.get w).rx.length + 2 →
      exec (.linkIncomingByte w b) s =
        .next { s with wires := s.wires.set w { s.wires.get w with rx :=
          { (s.wires.get w).rx with stored := (s.wires.get w).rx.stored ++ [b], gap := true } } }) ∧
    (s.port.rx.phase = .hunt → b ≠ 0xA5#8 → exec (.incomingByte b) s = .next s) ∧
    (s.port.rx.phase = .hunt → b = 0xA5#8 →
      exec (.incomingByte b) s = .next { s with port := { s.port with rx := ⟨.header, 0, [], false⟩ } }) ∧
    (s.port.rx.phase = .header → 2 ≤ b.toNat → b.toNat ≤ 252 →
      exec (.incomingByte b) s = .next { s with port := { s.port with rx := ⟨.body, b.toNat, [], true⟩ } }) ∧
    (s.port.rx.phase = .header → ¬(2 ≤ b.toNat ∧ b.toNat ≤ 252) →
      exec (.incomingByte b) s =
        .next { s.figuresSettled with
          port := { s.port with rx := Assembler.idle, linkErrors := min 65535 (s.port.linkErrors + 1) } }) ∧
    (s.port.rx.phase = .body → s.port.rx.stored.length + 1 ≠ s.port.rx.length + 2 →
      exec (.incomingByte b) s =
        .next { s with port := { s.port with rx :=
          { s.port.rx with stored := s.port.rx.stored ++ [b], gap := true } } })

/-! ### The supervisor link port -/

/-- R174, R176, R179, R16: in which order the port tests a frame of a request type; and the payload length of every request
type (11.1): any other length is answered LENGTH, and in LOADING the right one BUSY. That no figures are passing afterwards is
DESIGN CHOICE, assumption log 44. -/
def Obligations.RequestsAreTestedInOrder : Prop :=
  (∀ (s : State) (seq : Byte) (p : List Byte), s.port.restarting = false → s.port.replies.length < Config.replyQueueSize →
    (∀ x ∈ ([(0x02, 3, .configRead), (0x03, 0, .configCommit), (0x10, 2, .dispatch), (0x11, 0, .stop), (0x12, 1, .recover),
        (0x13, 1, .referenceRun), (0x14, 1, .setClass), (0x18, 0, .brakeReset), (0x19, 0, .faultsRead),
        (0x1A, 0, .faultsClear), (0x20, 1, .doorRelease), (0x21, 1, .doorOpen), (0x22, 1, .doorClose),
        (0x23, 1, .doorCancel), (0x24, 2, .carFlags), (0x25, 3, .setOnboard), (0x28, 1, .windowOpen),
        (0x29, 1, .windowClose), (0x2A, 1, .carryClear), (0x2C, 2, .gateEnable), (0x30, 11, .passLoad),
        (0x31, 4, .passDelete), (0x32, 0, .passRead), (0x33, 3, .cursorSet), (0x34, 6, .denyAdd), (0x35, 6, .denyRemove),
        (0x36, 0, .tokenFlush), (0x37, 1, .storePlan), (0x38, 2, .setDay), (0x39, 4, .setClock), (0x3E, 2, .status),
        (0x3F, 0, .restart)] : List (Nat × Nat × (Byte → List Byte → Instr))),
      (p.length ≠ x.2.1 → exec (x.2.2 seq p) s = .next (s.replied (BitVec.ofNat 8 x.1) seq (.plain .length))) ∧
      (p.length = x.2.1 → s.cfg.commit = .loading →
        exec (x.2.2 seq p) s = .next (s.replied (BitVec.ofNat 8 x.1) seq (.plain .busy)))) ∧
    ((∀ k i r n rest, p = k :: i :: r :: n :: rest → n.toNat ≤ 16 → rest.length ≠ 5 * n.toNat) →
      exec (.configWrite seq p) s = .next (s.replied 0x01#8 seq (.plain .length)) ∧
        exec (.configRemove seq p) s = .next (s.replied 0x01#8 seq (.plain .length))) ∧
    (∀ k i r n rest, p = k :: i :: r :: n :: rest → n.toNat ≤ 16 → rest.length = 5 * n.toNat → s.cfg.commit = .loading →
      exec (.configWrite seq p) s = .next (s.replied 0x01#8 seq (.plain .busy)) ∧
        exec (.configRemove seq p) s = .next (s.replied 0x01#8 seq (.plain .busy)))) ∧
  ∀ (α : Type) (seq typ : Byte) (args : Option α) (owner : α → State → Ruling) (s : State),
    (s.port.restarting = true →
      request seq typ args owner s = { s.figuresSettled with port := { s.port with rx := Assembler.idle } }) ∧
    (s.port.restarting = false → Config.replyQueueSize ≤ s.port.replies.length →
      request seq typ args owner s =
        { s.figuresSettled with
          port := { s.port with rx := Assembler.idle, linkErrors := min 65535 (s.port.linkErrors + 1) } }) ∧
    (s.port.restarting = false → s.port.replies.length < Config.replyQueueSize → args = none →
      request seq typ args owner s = s.replied typ seq (.plain .length)) ∧
    (∀ a, s.port.restarting = false → s.port.replies.length < Config.replyQueueSize → args = some a →
      s.cfg.commit = .loading → request seq typ args owner s = s.replied typ seq (.plain .busy)) ∧
    (∀ a, s.TakesRequests → args = some a →
      request seq typ args owner s =
        (owner a s.hunting).effect (match (owner a s.hunting).body with
          | none => s.hunting.figuresSettled
          | some b => s.replied typ seq b))

/-- R67, R70, R100, R124, R125, R135, R175: the rows of DISPATCH, RECOVER, REFERENCE RUN, BRAKE RESET, DOOR OPEN, DOOR CLOSE
and WINDOW OPEN that come before the OK with its effect: the first that holds gives the reply, and nothing else changes. "OK,
no change" of DOOR CLOSE is an acceptance, which clears the arrival flag of the car and nothing else (R122, R125). That no
figures are passing afterwards is DESIGN CHOICE, assumption log 44. -/
def Obligations.RefusedRequestsChangeNothing : Prop :=
  ∀ (s : State) (seq : Byte) (b : ReplyBody), s.TakesRequests →
    (∀ dest cls : Byte,
      (if s.cfg.commit = .writing then some (.plain .busy)
        else if s.trip.state = .unconfigured then some (.plain .state)
        else if s.trip.state.underWay = true then some (.plain .busy)
        else if s.trip.state = .stranded ∨ s.trip.state = .intervened then some (.plain .state)
        else if s.brake.latch = true ∨ s.pos.view.pos ≠ .confirmed then some (.plain .state)
        else if 2 < cls.toNat ∨ s.stopCount ≤ dest.toNat ∨ s.trip.state = .parked dest.toNat then some (.plain .range)
        else none) = some b →
      exec (.dispatch seq [dest, cls]) s = .next (s.replied 0x10#8 seq b)) ∧
    (∀ code : Byte,
      (if s.cfg.commit = .writing then some (.plain .busy)
        else if s.trip.state = .unconfigured then some (.plain .state)
        else if s.trip.state.underWay = true then some (.plain .busy)
        else if s.trip.state ≠ .stranded ∨ s.brake.latch = true then some (.plain .state)
        else none) = some b →
      exec (.recover seq [code]) s = .next (s.replied 0x12#8 seq b) ∧
        exec (.referenceRun seq [code]) s = .next (s.replied 0x13#8 seq b)) ∧
    (∀ (code : Byte) (d : LineDesc), s.cfg.commit ≠ .writing → s.trip.state = .stranded → s.brake.latch = false →
      s.cfg.active = some d →
      ((if s.pos.view.pos ≠ .confirmed then some (.plain .state)
          else if 1 < code.toNat then some (.plain .range)
          else if code.toNat = 0 ∧ ∀ k, k < d.stops.length → (d.stopX k : Int) ≤ s.pos.view.xP + d.line.stopWindow then
            some (.plain .range)
          else if code.toNat = 1 ∧ ∀ k, k < d.stops.length → s.pos.view.xP - d.line.stopWindow ≤ (d.stopX k : Int) then
            some (.plain .range)
          else none) = some b →
        exec (.recover seq [code]) s = .next (s.replied 0x12#8 seq b)) ∧
      ((if s.pos.view.pos = .confirmed then some (.plain .state)
          else if 1 < code.toNat then some (.plain .range)
          else none) = some b →
        exec (.referenceRun seq [code]) s = .next (s.replied 0x13#8 seq b))) ∧
    (∀ car : Byte, 1 < car.toNat →
      (s.unconfigured = true → exec (.doorOpen seq [car]) s = .next (s.replied 0x21#8 seq (.plain .state)) ∧
        exec (.doorClose seq [car]) s = .next (s.replied 0x22#8 seq (.plain .state))) ∧
      (s.unconfigured = false → exec (.doorOpen seq [car]) s = .next (s.replied 0x21#8 seq (.plain .range)) ∧
        exec (.doorClose seq [car]) s = .next (s.replied 0x22#8 seq (.plain .range))) ∧
      ((if s.cfg.commit = .writing then some (.plain .busy)
          else if s.unconfigured = true then some (.plain .state)
          else some (.plain .range)) = some b →
        exec (.windowOpen seq [car]) s = .next (s.replied 0x28#8 seq b))) ∧
    ((if s.unconfigured = true then some (.plain .state)
        else if s.brake.ebLift.isSome = true then some (.plain .busy)
        else if (s.trip.state.isParked = false ∧ s.trip.state ≠ .stranded) ∨ s.pos.view.settled = false ∨
          s.trip.driveLast = .fault ∨ s.trip.driveLostNow = true ∨ s.link.a.live = false ∨ s.link.b.live = false ∨
          s.brake.sb.stuck = true ∨ s.brake.eb.stuck = true then some (.plain .state)
        else if s.brake.latch = false ∧ s.brake.eb.command = .lifted then some (.done true)
        else none) = some b →
      exec (.brakeReset seq []) s = .next (s.replied 0x18#8 seq b)) ∧
    (∀ (car : Byte) (c : Car), carOfCode car = some c →
      ((if s.unconfigured = true ∨ s.trip.state.isParked = false ∨ (s.link.get c).live = false ∨
            (s.door.get c).authority = none ∨ (s.link.get c).faults.doorDrive = true ∨ (s.door.get c).state = .closing
          then some (.plain .state)
          else if (s.link.get c).slot.isSome = true then some (.plain .busy)
          else none) = some b →
        exec (.doorOpen seq [car]) s = .next (s.replied 0x21#8 seq b)) ∧
      ((if s.unconfigured = true ∨ (s.trip.state.isParked = false ∧ s.trip.state ≠ .stranded) ∨
            (s.door.get c).state = .unknown then some (.plain .state)
          else if (s.door.get c).state = .locked ∨ (s.door.get c).state = .closing then none
          else if (s.link.get c).slot.isSome = true then some (.plain .busy)
          else none) = some b →
        exec (.doorClose seq [car]) s = .next (s.replied 0x22#8 seq b)) ∧
      (s.unconfigured = false → (s.trip.state.isParked = true ∨ s.trip.state = .stranded) →
        ((s.door.get c).state = .locked ∨ (s.door.get c).state = .closing) →
        exec (.doorClose seq [car]) s =
          .next { s.replied 0x22#8 seq (.done true) with
            door := s.door.set c { s.door.get c with arrival := false } }) ∧
      ((if s.cfg.commit = .writing then some (.plain .busy)
          else if s.unconfigured = true then some (.plain .state)
          else if (s.window c).state = .opened then some (.done true)
          else if (s.window c).state = .closing then some (.plain .busy)
          else if s.trip.state = .preparing ∨ (s.door.get c).state ≠ .opened then some (.plain .state)
          else none) = some b →
        exec (.windowOpen seq [car]) s = .next (s.replied 0x28#8 seq b)))

/-- R174, R173, R172: a type that is not a request type, a discarded frame, a gap. That a timeout of a gap timer that does
not run changes nothing is DESIGN CHOICE, assumption log 15. That no figures are passing afterwards is DESIGN CHOICE,
assumption log 44. -/
def Obligations.DiscardsCountAndUnknownReplies : Prop :=
  ∀ (s : State) (seq typ : Byte) (why : DiscardReason), s.port.restarting = false →
    (typ.toNat < 0x80 → s.port.replies.length < Config.replyQueueSize →
      exec (.unknownRequest seq typ) s = .next (s.replied typ seq (.plain .unknown))) ∧
    (0x80 ≤ typ.toNat →
      exec (.unknownRequest seq typ) s =
        .next { s.figuresSettled with
          port := { s.port with rx := Assembler.idle, linkErrors := min 65535 (s.port.linkErrors + 1) } }) ∧
    exec (.discardedFrame why) s =
      .next { s.figuresSettled with
        port := { s.port with rx := Assembler.idle, linkErrors := min 65535 (s.port.linkErrors + 1) } } ∧
    (s.port.rx.gap = true →
      exec .byteGapTimeout s =
        .next { s.figuresSettled with
          port := { s.port with rx := Assembler.idle, linkErrors := min 65535 (s.port.linkErrors + 1) } }) ∧
    (s.port.rx.gap = false → exec .byteGapTimeout s = .next s)

/-- R36, R37, R62, R66, R107, R132, R133, R152, R160, R170, R180 with R13, R50 and R90: what a reset leaves; the image, the
readings of the two feedback contacts and the commands that wait are outside it. No timer runs but an apply timer of a brake
that reads LIFTED. R179: RESTART is accepted outside WRITING, and the part resets when its OK reply has been sent. The
model's own choices in it: the kept queue of commands (DESIGN CHOICE, assumption log 1), the trip state UNCONFIGURED while
LOADING (DESIGN CHOICE, log 8), pass table and ring empty at once (DEDUCED, log 27), draft, sequence and load result before
the load has ended (DESIGN CHOICE, log 41), no figures passing afterwards (DESIGN CHOICE, log 44), and nothing being sent or
waiting on a partner link (DESIGN CHOICE, log 54). -/
def Obligations.ResetAndRestart : Prop :=
  ∀ s : State,
    (∃ t, exec .reset s = .next t ∧ t.pending = s.pending ∧
      t.cfg = ⟨.loading, [], none, s.cfg.image, 0, .loaded, none, none⟩ ∧
      t.pos.p = ⟨0, 0, 0, List.replicate 8 0, 0⟩ ∧ t.pos.q = ⟨0, 0, 0, List.replicate 8 0, 0⟩ ∧
      t.pos.vmHistory = List.replicate 50 0 ∧ t.pos.pos = .unreferenced ∧ t.pos.excess = 0 ∧ t.pos.resolving = false ∧
      t.pos.armed = none ∧ t.pos.missedRun = 0 ∧ t.pos.corrected = 0 ∧ t.pos.mismatch = 0 ∧ t.pos.unexpected = 0 ∧
      t.pos.missed = 0 ∧ t.pos.diverged = false ∧ t.pos.still = 0 ∧ t.pos.hold = none ∧ t.pos.rollback = 0 ∧
      t.pos.forwardRun = 0 ∧ t.pos.view.standstill = false ∧ t.pos.view.settled = false ∧ t.pos.view.atStop = none ∧
      t.load.live = none ∧ t.load.snapshot = none ∧ t.load.implausible = ⟨0, 0⟩ ∧ t.load.passing = none ∧
      t.env.vPerm = 0 ∧ t.env.list = [] ∧ t.env.zoneOfRecord = none ∧ t.env.cap = none ∧ t.env.pendingCap = none ∧
      t.env.result.level = .none ∧ t.env.result.vPerm = 0 ∧ t.env.result.restrictions = [] ∧
      t.trip.state = .unconfigured ∧ t.trip.record = none ∧ t.trip.vRef = 0 ∧ t.trip.departures = 0 ∧
      t.trip.driveLast = .none ∧ t.trip.driveMissed = 0 ∧ t.trip.progress = none ∧ t.trip.lastAbandon = none ∧
      t.trip.tPrep = none ∧ t.trip.tLift = none ∧
      t.brake.sb.command = .applied ∧ t.brake.eb.command = .applied ∧ t.brake.de = false ∧
      t.brake.state = .emergency ∧ t.brake.latch = true ∧
      t.brake.captures = [⟨.startUp, .emergency, 0, 0, 1, none⟩] ∧ t.brake.overflow = false ∧
      t.brake.interventions = 0 ∧ t.brake.escalation = none ∧ t.brake.ebLift = none ∧ t.brake.check = .notMade ∧
      t.brake.sb.stuck = false ∧ t.brake.eb.stuck = false ∧ t.brake.lastLevel = .none ∧ t.brake.lastFlag = false ∧
      t.brake.drops = 0 ∧ t.brake.sb.feedback = s.brake.sb.feedback ∧ t.brake.eb.feedback = s.brake.eb.feedback ∧
      (t.brake.sb.applyTimer.isSome = true ↔ s.brake.sb.feedback = .lifted) ∧
      (t.brake.eb.applyTimer.isSome = true ↔ s.brake.eb.feedback = .lifted) ∧
      (∀ c, (t.link.get c).live = false ∧ (t.link.get c).liveness = none ∧ (t.link.get c).recordErrors = 0 ∧
        (t.link.get c).baselines = none ∧ (t.link.get c).onboard = 0 ∧ (t.link.get c).weigh = none ∧
        (t.link.get c).attendant = ⟨false, false, false, false⟩ ∧ (t.link.get c).faults = ⟨false, false⟩ ∧
        (t.link.get c).slot = none ∧ (t.link.get c).tag = 0 ∧ (t.link.get c).flag1 = false ∧
        (t.link.get c).flag2 = false ∧ (t.door.get c).state = .unknown ∧ (t.door.get c).authority = none ∧
        (t.door.get c).retry = 0 ∧ (t.door.get c).cycle = none ∧ (t.door.get c).tClose = none ∧
        (t.door.get c).arrival = false ∧ (t.door.get c).memUnlocked = false ∧ (t.door.get c).memNoAuthority = false ∧
        (t.door.get c).memWrongSide = false ∧
        t.board.windows.get c = ⟨.shut, none, 0, 0, none, 0, 0, 0, 0, 0, false⟩) ∧
      t.board.carry = List.replicate 6 0 ∧ t.board.grants = [] ∧
      t.bus.gates = List.replicate 12 ⟨.disabled, none, 0, 0, 0, false, none, none⟩ ∧ t.bus.position = 0 ∧
      t.bus.outstanding = none ∧ (∀ w, t.wires.get w = ⟨⟨.hunt, 0, [], false⟩, none, []⟩) ∧
      t.store.state = .clearing ∧ t.store.passes = [] ∧ t.store.ring = [] ∧ t.store.deny = [] ∧ t.store.day = 0 ∧
      t.store.clock = 0 ∧ t.store.cursor = 0 ∧ t.store.cursorDir = .up ∧ t.store.clearRunning = false ∧
      t.port.rx.phase = .hunt ∧ t.port.rx.gap = false ∧ t.port.replies = [] ∧ t.port.reports = [] ∧
      t.port.sending = none ∧ t.port.linkErrors = 0 ∧ t.port.dropped = false ∧ t.port.restarting = false) ∧
    (∀ seq, s.TakesRequests → s.cfg.commit = .writing →
      exec (.restart seq []) s = .next (s.replied 0x3F#8 seq (.plain .busy))) ∧
    (∀ seq, s.TakesRequests → s.cfg.commit ≠ .writing →
      exec (.restart seq []) s =
        .next { s.replied 0x3F#8 seq (.plain .ok) with
          port := { (s.replied 0x3F#8 seq (.plain .ok)).port with restarting := true } }) ∧
    (∀ seq, s.port.restarting = true → s.port.sending = some (.reply ⟨0xBF#8, seq, .plain .ok⟩) →
      exec .frameSent s = exec .reset s)

/-- R176, R177: when the transmitter finishes a frame, it takes the oldest waiting reply, or else the oldest report. A reply
joins the reply queue at its end, and a report the report queue as the newest; a free transmitter then takes the oldest
frame. A report that finds 32 waiting is dropped, and the reports-dropped flag is set. R174: a reply has the type of its
request + 0x80 and echoes the sequence byte. R173, with 10.1 and 11.1: the CRC-16, bit by bit, and the bytes of a frame that
the part sends: of every reply body with its result code, and of every report of R16, R35, R88, R108, R131, R151 and R171
with its type, its event byte and its fields in order. R88, R131, R151, R102: the stop and the departure number that reports
and captures carry; that INTERVENTION, WARNING and FAULT reports carry the number of R102 is DESIGN CHOICE, assumption log
48. The model's own choices in these bytes: the event byte 0 of a TRIP and a WARNING report, the place of the event fields of
DOOR and WINDOW reports, the presence flags and zeros of GATE and FAULT reports (DESIGN CHOICE, assumption log 32); a value
beyond 4 signed bytes is free (DESIGN CHOICE, log 51). That no figures are passing afterwards is DESIGN CHOICE, assumption
log 44. -/
def Obligations.FrameSentTakesTheNext : Prop :=
  (∀ (bs : List Byte) (b : Byte), crc16 [] = 0xFFFF#16 ∧
    crc16 (bs ++ [b]) = ([7, 6, 5, 4, 3, 2, 1, 0].map b.getLsbD).foldl
      (fun (c : BitVec 16) x => if c.getLsbD 15 = x then c <<< 1 else (c <<< 1) ^^^ 0x1021#16) (crc16 bs)) ∧
  crc16 [0x31#8, 0x32#8, 0x33#8, 0x34#8, 0x35#8, 0x36#8, 0x37#8, 0x38#8, 0x39#8] = 0x29B1#16 ∧
  (∀ (start : Byte) (content : List Byte), ∃ crc, crc = crc16 (BitVec.ofNat 8 content.length :: content) ∧
    framed start content =
      start :: BitVec.ofNat 8 content.length :: (content ++ [(crc >>> 8).setWidth 8, crc.setWidth 8])) ∧
  ((∀ n : Nat, (Item.u8 n).bytes = [BitVec.ofNat 8 n] ∧ (Item.u16 n).bytes = [BitVec.ofNat 8 (n / 256), BitVec.ofNat 8 n] ∧
      (Item.u32 n).bytes = [BitVec.ofNat 8 (n / 16777216), BitVec.ofNat 8 (n / 65536), BitVec.ofNat 8 (n / 256),
        BitVec.ofNat 8 n]) ∧
    (∀ z : Int, (Item.i8 z).bytes = [BitVec.ofInt 8 z] ∧
      (Item.i16 z).bytes = [(BitVec.ofInt 16 z >>> 8).setWidth 8, (BitVec.ofInt 16 z).setWidth 8] ∧
      (Item.i32 z).bytes.length = 4 ∧
      (-2147483648 ≤ z → z ≤ 2147483647 → (Item.i32 z).bytes =
        [(BitVec.ofInt 32 z >>> 24).setWidth 8, (BitVec.ofInt 32 z >>> 16).setWidth 8,
          (BitVec.ofInt 32 z >>> 8).setWidth 8, (BitVec.ofInt 32 z).setWidth 8])) ∧
    (∀ (x : Item) (l : List Item), itemBytes [] = [] ∧ itemBytes (x :: l) = x.bytes ++ itemBytes l)) ∧
  (([.ok, .busy, .state, .range, .full, .duplicate, .absent, .unknown, .invalid, .length] : List Result).map
      (·.ctorIdx) = List.range 10 ∧
    ([.overspeedEmergency, .lineMax, .rollback, .driftUnderBrake, .divergence, .doorUnlockedRun, .overtravel,
      .insufficientDecel, .sbStuck, .ebStuck, .startUp, .overspeedService, .noProgress, .driveLost, .driveFault,
      .carLinkLostRun, .doorWithoutAuthority, .wrongSide, .referenceNotFound, .liftFail, .markMismatch, .unexpectedMark] :
      List Cause).map (·.ctorIdx) = List.range 22 ∧
    ([.emergency, .service, .recordOnly] : List Severity).map (·.ctorIdx) = [0, 1, 2] ∧
    ([.service, .emergency, .escalated, .reset, .ebLifted] : List InterventionEvent).map (·.ctorIdx) = [0, 1, 2, 3, 4] ∧
    ([.condition, .link, .step2, .closed, .activation] : List WithdrawReason).map (·.ctorIdx) = [0, 1, 2, 3, 4] ∧
    ([.obstruction, .timeout] : List HeldReason).map (·.ctorIdx) = [0, 1]) ∧
  (∀ (k : Nat) (s : State),
    ([.unconfigured, .stranded, .parked k, .preparing, .lifting, .running, .creeping, .settling, .intervened] :
      List TripState).map (·.stop?) = [none, none, some k, none, none, none, none, none, none] ∧
    (s.trip.record = none → s.recordDeparture = 0 ∧ s.departureNumber = s.trip.departures) ∧
    (∀ r, s.trip.record = some r → s.recordDeparture = r.departure ∧ s.departureNumber = r.departure)) ∧
  (∀ (fl : Bool → Item) (o8 : Option Nat → List Item) (att : Attendant → Item) (flt : CarFaults → Item)
      (bit : Bool → Nat) (auth : Option Side → Item) (pass : PassRec → List Item) (cap : Capture → List Item),
    (∀ b, bit b = if b = true then 1 else 0) → (∀ b, fl b = Item.u8 (bit b)) →
    (∀ x, o8 x = [fl x.isSome, Item.u8 (x.getD 0)]) →
    (∀ x, att x = Item.u8 (bit x.ready + 2 * bit x.hold + 4 * bit x.alarm + 8 * bit x.service)) →
    (∀ x, flt x = Item.u8 (bit x.doorDrive + 2 * bit x.counter)) →
    (∀ x, auth x = Item.u8 ((x.map (·.ctorIdx + 1)).getD 0)) →
    (∀ x, pass x = [Item.u32 x.id, Item.u8 x.cls, Item.u16 x.firstDay, Item.u16 x.lastDay, Item.u16 x.rides,
      fl x.lastEntry.isSome, Item.u16 ((x.lastEntry.map (·.1)).getD 0), Item.u32 ((x.lastEntry.map (·.2)).getD 0),
      Item.u8 (x.lastPlatform.getD 0)]) →
    (∀ x, cap x = [Item.u8 x.cause.ctorIdx, Item.u8 x.severity.ctorIdx, Item.u16 x.firstDeparture,
      Item.u16 x.lastDeparture, Item.u8 x.count, fl x.x.isSome, Item.i32 (x.x.getD 0)]) →
    (∀ r, (OutFrame.reply r).bytes = framed 0xA5#8 (r.typ :: r.seq :: itemBytes r.body.items)) ∧
    (∀ r, ReplyBody.items (.plain r) = [Item.u8 r.ctorIdx]) ∧
    (∀ b, ReplyBody.items (.done b) = [Item.u8 0, fl b]) ∧
    (∀ k i x, ReplyBody.items (.invalid k i x) = [Item.u8 8, Item.u8 k, Item.u8 i, Item.u8 x]) ∧
    (∀ fs, ReplyBody.items (.record fs) = [Item.u8 0, Item.u8 fs.length] ++
      fs.flatMap fun f => [Item.u8 f.1, fl f.2.isSome, Item.u32 (f.2.getD 0)]) ∧
    (∀ b i, ReplyBody.items (.passLoaded b i) = [Item.u8 0, fl b, Item.u16 i]) ∧
    (∀ rs n, ReplyBody.items (.passes rs n) = [Item.u8 0, Item.u8 rs.length, Item.u16 n] ++ rs.flatMap pass) ∧
    (∀ es o n st b, ReplyBody.items (.faults es o n st b) =
      [Item.u8 0, Item.u8 es.length, fl o, Item.u8 n, Item.u8 st.ctorIdx, fl b] ++ es.flatMap cap) ∧
    (∀ (c : StatusCommon) pages items, ReplyBody.items (.status c pages items) =
      [Item.u8 0, Item.u8 (bit (!c.configured)), Item.u8 c.trip.ctorIdx, Item.u8 (match c.trip with
          | .parked k => k
          | _ => 255),
        Item.u8 c.pos.ctorIdx, Item.u8 c.supervisor.ctorIdx, fl c.latch, Item.u8 c.store.ctorIdx, Item.u16 c.linkErrors,
        fl c.dropped, Item.u8 c.reportsWaiting, Item.u8 c.repliesWaiting, Item.u8 pages] ++ items) ∧
    (∀ r t l, Report.items r = (t, l) →
      (OutFrame.report r).bytes = framed 0xA5#8 (BitVec.ofNat 8 t :: 0#8 :: itemBytes l)) ∧
    (∀ n kind was st stop reason x, Report.items (.trip n kind was st stop reason x) =
      (0x40, [Item.u8 0, Item.u16 n] ++ o8 (kind.map (·.ctorIdx)) ++ [Item.u8 was.ctorIdx, Item.u8 st.ctorIdx] ++
        o8 stop ++ [Item.u8 reason.ctorIdx, Item.i32 x])) ∧
    (∀ e c st n x (vm vp : Nat) k, Report.items (.intervention e c st n x vm vp k) =
      (0x41, [Item.u8 e.ctorIdx] ++ o8 (c.map (·.ctorIdx)) ++
        [Item.u8 st.ctorIdx, Item.u16 n, Item.i32 x, Item.i32 vm, Item.i32 vp, Item.u8 k])) ∧
    (∀ n x (vm vp thr : Nat), Report.items (.warning n x vm vp thr) =
      (0x42, [Item.u8 0, Item.u16 n, Item.i32 x, Item.i32 vm, Item.i32 vp, Item.i32 thr])) ∧
    (∀ c sev n x k st, Report.items (.fault c sev n x k st) =
      (0x47, [Item.u8 0, Item.u8 c.ctorIdx, Item.u8 sev.ctorIdx, Item.u16 n, Item.i32 x] ++ o8 k ++
        [Item.u8 st.ctorIdx])) ∧
    (∀ r k i x, Report.items (.loadFault r (some (k, i, x))) =
        (0x47, [Item.u8 1, Item.u8 r.ctorIdx, Item.u8 k, Item.u8 i, Item.u8 x]) ∧
      Report.items (.loadFault r none) = (0x47, [Item.u8 1, Item.u8 r.ctorIdx, Item.u8 0, Item.u8 0, Item.u8 0])) ∧
    (∀ (c : Car) (e : DoorEvent) (code : Nat) (more : List Item) st au l r k flags faults n,
      ((e = .linkLive ∧ code = 0 ∧ more = []) ∨ (e = .linkLost ∧ code = 1 ∧ more = []) ∨
        (∃ before, e = .attendant before ∧ code = 2 ∧ more = [att before]) ∨ (e = .carFault ∧ code = 3 ∧ more = []) ∨
        (e = .granted ∧ code = 4 ∧ more = []) ∨
        (∃ why : WithdrawReason, e = .withdrawn why ∧ code = 5 ∧ more = [Item.u8 why.ctorIdx]) ∨
        (∃ why : HeldReason, e = .held why ∧ code = 6 ∧ more = [Item.u8 why.ctorIdx])) →
      Report.items (.door c e st au l r k flags faults n) =
        (0x43, [Item.u8 code, Item.u8 c.ctorIdx] ++ more ++ [Item.u8 st.ctorIdx, auth au, Item.u8 l.ctorIdx,
          Item.u8 r.ctorIdx, Item.u8 k, att flags, flt faults, Item.u16 n])) ∧
    (∀ (e : WindowEvent) (code : Nat) (more : List Item) (c : Car) p station st n,
      ((∃ carry dropped, e = .opened carry dropped ∧ code = 0 ∧ more = [Item.u8 carry, Item.u8 dropped]) ∨
        (∃ (why : CloseReason) (k : Nat), e = .closing why k ∧ code = 1 ∧ more = [Item.u8 why.ctorIdx, Item.u8 k]) ∨
        (∃ (why : CloseReason) (g k rel u cin cout : Nat), e = .shut why g k rel u cin cout ∧ code = 2 ∧
          more = [Item.u8 why.ctorIdx, Item.u16 g, Item.u16 k, Item.u16 rel, Item.u16 u, Item.u8 cin, Item.u8 cout]) ∨
        (∃ k, e = .carryCleared k ∧ code = 3 ∧ more = [Item.u8 k])) →
      Report.items (.window e c p station st n) = (0x44, [Item.u8 code] ++ more ++
        [Item.u8 c.ctorIdx, Item.u8 p, Item.u8 station, Item.u8 st.ctorIdx, Item.u16 n])) ∧
    (∀ g p station (st : GateState) k code granted plan passes ring,
      Report.items (.gate (.online g p station st k)) =
        (0x45, [Item.u8 0, Item.u8 g] ++ o8 p ++ o8 station ++ [Item.u8 st.ctorIdx, Item.u8 k]) ∧
      Report.items (.gate (.offline g p station st k)) =
        (0x45, [Item.u8 1, Item.u8 g] ++ o8 p ++ o8 station ++ [Item.u8 st.ctorIdx, Item.u8 k]) ∧
      Report.items (.gate (.enabled g st)) = (0x45, [Item.u8 2, Item.u8 g, Item.u8 st.ctorIdx]) ∧
      Report.items (.gate (.disabled g st)) = (0x45, [Item.u8 3, Item.u8 g, Item.u8 st.ctorIdx]) ∧
      Report.items (.gate (.fault g code granted)) = (0x45, [Item.u8 4, Item.u8 g, Item.u8 code, fl granted]) ∧
      Report.items (.gate (.storeClearing plan)) = (0x45, [Item.u8 5, Item.u8 plan]) ∧
      Report.items (.gate (.storeReady plan passes ring)) =
        (0x45, [Item.u8 6, Item.u8 plan, Item.u16 passes, Item.u16 ring])) ∧
    (∀ ch mm un mi mark st x y, Report.items (.position ch mm un mi mark st x y) =
      (0x46, [Item.u8 (bit ch + 2 * bit mm + 4 * bit un + 8 * bit mi)] ++ o8 mark ++
        [Item.u8 st.ctorIdx, Item.i32 x, Item.i32 y]))) ∧
  (∀ (s : State) (typ seq : Byte) (b : ReplyBody), s.replied typ seq b =
    ({ s with
      load := { s.load with passing := none }
      port := { s.port with rx := ⟨.hunt, 0, [], false⟩ } } : State).reply ⟨typ + 0x80#8, seq, b⟩) ∧
  (∀ (s : State) (r : Reply),
    (s.port.sending.isSome = true → s.reply r = { s with port := { s.port with replies := s.port.replies ++ [r] } }) ∧
    (∀ x xs, s.port.sending = none → s.port.replies ++ [r] = x :: xs →
      s.reply r = { s with port := { s.port with sending := some (.reply x), replies := xs } })) ∧
  (∀ (s : State) (r : Report),
    (32 ≤ s.port.reports.length → s.report r = { s with port := { s.port with dropped := true } }) ∧
    (s.port.reports.length < 32 →
      (s.port.sending.isSome = true → s.report r = { s with port := { s.port with reports := s.port.reports ++ [r] } }) ∧
      (∀ x xs, s.port.sending = none → s.port.replies = x :: xs →
        s.report r = { s with
          port := { s.port with sending := some (.reply x), replies := xs, reports := s.port.reports ++ [r] } }) ∧
      (∀ x xs, s.port.sending = none → s.port.replies = [] → s.port.reports ++ [r] = x :: xs →
        s.report r = { s with port := { s.port with sending := some (.report x), reports := xs } }))) ∧
  ∀ s : State, s.port.sending.isSome = true → s.port.restarting = false →
    (∀ r rs, s.port.replies = r :: rs →
      exec .frameSent s = .next { s.figuresSettled with port := { s.port with sending := some (.reply r), replies := rs } }) ∧
    (∀ r rs, s.port.replies = [] → s.port.reports = r :: rs →
      exec .frameSent s = .next { s.figuresSettled with
        port := { s.port with sending := some (.report r), reports := rs } }) ∧
    (s.port.replies = [] → s.port.reports = [] →
      exec .frameSent s = .next { s.figuresSettled with port := { s.port with sending := none } })

/-- R178: STATUS answers with the common part, the number of pages and one page of the section, clears the reports-dropped
flag, and changes nothing else; and R1, R35, R49, R62, R88, R109, R131, R151, R171: the number of pages of every section and
the items of each, in order, with their widths and codes (11). The model's own choices in it: the time left on a timer and
the age of a value (free values), with the draw counter (DESIGN CHOICE, assumption log 3), the readings in force that the
common part shows and the items of each section (DESIGN CHOICE, logs 31, 36 and 53), the live figures of a car status record
in between, which are free to show or not, and the passing figures, which are past after it (DESIGN CHOICE, log 44). -/
def Obligations.StatusShowsASection : Prop :=
  (∀ (s : State) (code : Nat),
    s.sectionPages 3 = (if s.env.result.restrictions.length ≤ 9 then 1 else 2) ∧
    s.sectionPages 8 = (if s.board.grants.length ≤ 6 then 1 else 2) ∧
    (s.store.deny = [] → s.sectionPages 11 = 1) ∧
    (∀ m, 32 * m < s.store.deny.length → s.store.deny.length ≤ 32 * m + 32 → s.sectionPages 11 = m + 1) ∧
    (code ≠ 3 → code ≠ 8 → code ≠ 11 → s.sectionPages code = 1)) ∧
  ((∀ (k : Nat) (a : Int),
    ([.unconfigured, .stranded, .parked k, .preparing, .lifting, .running, .creeping, .settling, .intervened] :
      List TripState).map (·.ctorIdx) = [0, 1, 2, 3, 4, 5, 6, 7, 8] ∧
    ([.notMade, .passedStill, .passed a, .failed a] : List CheckResult).map (·.ctorIdx) = [0, 1, 2, 3]) ∧
    ([.loading, .idle, .writing] : List CommitState).map (·.ctorIdx) = [0, 1, 2] ∧
    ([.loaded, .imageAbsent, .imageCrc, .imageContent] : List LoadResult).map (·.ctorIdx) = [0, 1, 2, 3] ∧
    ([.up, .down, .none] : List Motion).map (·.ctorIdx) = [0, 1, 2] ∧
    ([.unreferenced, .confirmed, .disputed] : List PosState).map (·.ctorIdx) = [0, 1, 2] ∧
    ([.up, .down] : List Dir).map (·.ctorIdx) = [0, 1] ∧
    ([.none, .warning, .service, .emergency] : List Level).map (·.ctorIdx) = [0, 1, 2, 3] ∧
    ([.zone, .destination] : List RestrictionKind).map (·.ctorIdx) = [0, 1] ∧
    ([.normal, .recovery, .reference] : List TripKind).map (·.ctorIdx) = [0, 1, 2] ∧
    ([.normal, .reduced, .inspection] : List SpeedClass).map (·.ctorIdx) = [0, 1, 2] ∧
    ([.stopped, .alarm, .markFound] : List StopReason).map (·.ctorIdx) = [0, 1, 2] ∧
    ([.dispatched, .lifting, .lifted, .creep, .settle, .arrived, .stopped, .alarm, .markFound, .timeout, .doors, .latch,
      .position, .carLink, .drive, .imbalance, .attendant, .intervention, .intervenedEnd, .liftFail, .config] :
      List TripReason).map (·.ctorIdx) = List.range 21 ∧
    ([.none, .ready, .running, .fault] : List DriveLast).map (·.ctorIdx) = [0, 1, 2, 3] ∧
    ([.applied, .lifted] : List Contact).map (·.ctorIdx) = [0, 1] ∧
    ([.normal, .warning, .service, .emergency] : List SupState).map (·.ctorIdx) = [0, 1, 2, 3] ∧
    ([.locked, .closed, .moving, .standingOpen, .obstructed] : List DoorReport).map (·.ctorIdx) = [0, 1, 2, 3, 4] ∧
    ([.openDoors, .closeDoors, .reopen] : List DoorCommand).map (·.ctorIdx) = [0, 1, 2] ∧
    ([.unknown, .locked, .released, .opened, .unsecured, .closing, .held] : List DoorState).map (·.ctorIdx) =
      [0, 1, 2, 3, 4, 5, 6] ∧
    ([.left, .right] : List Side).map (·.ctorIdx) = [0, 1] ∧
    ([.window, .close, .reopen] : List CyclePhase).map (·.ctorIdx) = [0, 1, 2] ∧
    ([.shut, .opened, .closing] : List WindowState).map (·.ctorIdx) = [0, 1, 2] ∧
    ([.host, .preparing, .authority, .doors, .link, .doorClose] : List CloseReason).map (·.ctorIdx) =
      [0, 1, 2, 3, 4, 5] ∧
    ([.a, .b] : List Car).map (·.ctorIdx) = [0, 1] ∧ ([.pass, .token] : List CredKind).map (·.ctorIdx) = [0, 1] ∧
    ([.priority, .staff, .standard, .group] : List Category).map (·.code) = [0, 1, 2, 3] ∧
    ([.disabled, .online, .offline] : List GateState).map (·.ctorIdx) = [0, 1, 2] ∧
    ([.clearing, .ready] : List StoreState).map (·.ctorIdx) = [0, 1] ∧
    ([.pass, .token, .either] : List DenyKind).map (·.ctorIdx) = [0, 1, 2]) ∧
  (∀ (s : State) (page : Nat) (bit : Bool → Nat) (fl : Bool → Item) (o8 o16 oL : Option Nat → List Item)
      (dir : DirLoad → List Item) (car : CarLoad → Nat → List Item) (win : Window → List Item)
      (cnt : Option (BitVec 16 × BitVec 16) → List Item),
    (∀ b, bit b = if b = true then 1 else 0) → (∀ b, fl b = Item.u8 (bit b)) →
    (∀ x, o8 x = [fl x.isSome, Item.u8 (x.getD 0)]) → (∀ x, o16 x = [fl x.isSome, Item.u16 (x.getD 0)]) →
    (∀ x, oL x = [fl x.isSome, Item.i32 (x.getD 0 : Nat)]) →
    (∀ x, dir x = [Item.u16 x.u, fl x.within] ++ x.aEff.map fun a => Item.u16 a) →
    (∀ x n, car x n = [Item.u16 x.onboard, Item.u8 x.pending, Item.u8 x.inflight, Item.u32 x.payloadCount] ++ o16 x.weigh ++
      [fl x.fromWeigh, Item.u32 x.payload, Item.u32 x.gross, Item.u8 n]) →
    (∀ w, win w = [Item.u8 w.state.ctorIdx] ++ o8 w.platform ++ [Item.u8 w.pending, Item.u8 w.inflight] ++
      o8 (w.reason.map (·.ctorIdx)) ++
      [Item.u16 w.granted, Item.u16 w.committed, Item.u16 w.released, Item.u16 w.unverified, Item.u8 w.carryIn, fl w.deferred]) →
    (∀ x, cnt x = [fl x.isSome, Item.u16 ((x.map fun q => q.1.toNat).getD 0), Item.u16 ((x.map fun q => q.2.toNat).getD 0)]) →
    (s.cfg.loadFailure = none → s.sectionItems 0 page =
      [Item.u8 s.cfg.commit.ctorIdx, Item.u16 s.cfg.sequence, Item.u8 s.cfg.loadResult.ctorIdx, Item.u8 0, Item.u8 0, Item.u8 0]) ∧
    (∀ k i x, s.cfg.loadFailure = some (k, i, x) → s.sectionItems 0 page =
      [Item.u8 s.cfg.commit.ctorIdx, Item.u16 s.cfg.sequence, Item.u8 s.cfg.loadResult.ctorIdx, Item.u8 k, Item.u8 i, Item.u8 x]) ∧
    (∀ v, v = s.pos.view → s.sectionItems 1 page =
      [Item.i32 v.xP, Item.i32 v.xQ, Item.i32 v.vP, Item.i32 v.vQ, Item.i32 (v.vm : Nat), Item.u8 v.motion.ctorIdx, Item.u8 v.pos.ctorIdx,
        fl v.standstill, fl v.settled] ++ o8 v.atStop ++
      [fl v.hold.isSome, Item.u8 v.corrected, Item.u8 v.mismatch, Item.u8 v.unexpected, Item.u8 v.missed]) ∧
    (∃ f : LoadFigures,
      (s.load.passing = none → f = ⟨s.load.live, s.load.implausible, s.load.snapshot⟩) ∧
      (∀ g, s.load.passing = some g → f = g ∨ f = ⟨s.load.live, s.load.implausible, s.load.snapshot⟩) ∧
      ∃ live snap,
        (∀ l, f.live = some l → live =
          [fl true] ++ car l.cars.a f.implausible.a ++ car l.cars.b f.implausible.b ++ dir l.up ++ dir l.down) ∧
        (f.live = none → live = [fl false] ++ car ⟨0, 0, 0, none, 0, false, 0, 0⟩ f.implausible.a ++
          car ⟨0, 0, 0, none, 0, false, 0, 0⟩ f.implausible.b ++ dir ⟨0, false, []⟩ ++ dir ⟨0, false, []⟩) ∧
        (∀ n, f.snapshot = some n → snap =
          [fl true, Item.u16 n.departure, Item.u8 n.dir.ctorIdx, Item.u32 n.payload.a, fl n.fromWeigh.a, Item.u32 n.payload.b,
            fl n.fromWeigh.b, Item.u16 n.u] ++ n.aEff.map fun a => Item.u16 a) ∧
        (∀ d, f.snapshot = none → s.cfg.active = some d → snap =
          [fl false, Item.u16 0, Item.u8 0, Item.u32 0, fl false, Item.u32 0, fl false, Item.u16 0] ++
            List.replicate d.zones.length (Item.u16 0)) ∧
        s.sectionItems 2 page = live ++ snap) ∧
    (∀ r, r = s.env.result → s.sectionItems 3 page =
      [Item.i32 (r.vPerm : Nat), Item.i32 (r.warning : Nat), Item.i32 (r.service : Nat), Item.i32 (r.emergency : Nat),
        Item.i32 (r.lineMax : Nat), Item.u8 r.level.ctorIdx, fl r.lineMaxFlag, Item.i32 (r.zoneTerm : Nat)] ++ oL r.cap ++
      oL s.env.pendingCap ++ ((r.restrictions.drop (9 * page)).take 9).flatMap fun e =>
        [Item.u8 e.kind.ctorIdx, Item.i32 (e.position : Nat), Item.i32 (e.target : Nat), Item.u16 e.ar, Item.i32 e.distance,
          Item.i32 (e.vr : Nat)]) ∧
    (∀ t q, t = s.trip → q = t.record.getD ⟨.normal, none, none, .up, .normal, 0, none, none, false, 0, false⟩ →
      ∃ left, TimeLeft (if t.tPrep.isSome = true then t.tPrep else t.tLift) left ∧ s.sectionItems 4 page =
        [Item.u8 t.state.ctorIdx] ++ o8 (match t.state with
          | .parked k => some k
          | _ => none) ++ [fl t.record.isSome, Item.u8 q.kind.ctorIdx] ++ o8 q.origin ++ o8 q.destination ++
        [Item.u8 q.dir.ctorIdx, Item.u8 q.cls.ctorIdx, Item.u16 q.departure] ++ oL q.profileCap ++
        o8 (q.controlled.map (·.ctorIdx)) ++ [fl q.markFound, Item.i32 (q.refTravel : Nat), fl q.overtravel] ++
        [Item.i32 (t.vRef : Nat), Item.u8 t.step, fl t.holdWait, left, Item.u16 t.departures] ++ o8 (t.lastAbandon.map (·.ctorIdx)) ++
        [Item.u8 (if t.driveMissed = 5 then 4 else t.driveLast.ctorIdx), Item.u8 t.driveLast.ctorIdx, Item.u8 t.driveFaultCode,
          Item.i8 t.driveTorque, Item.u8 t.driveMissed, fl t.progress.isSome, Item.i32 ((t.progress.map (·.1)).getD 0),
          Item.u8 ((t.progress.map (·.2)).getD 0)]) ∧
    (∀ b, b = s.brake → ∃ sbLeft ebLeft escLeft liftLeft, TimeLeft b.sb.applyTimer sbLeft ∧
      TimeLeft b.eb.applyTimer ebLeft ∧ TimeLeft b.escalation escLeft ∧ TimeLeft b.ebLift liftLeft ∧
      s.sectionItems 5 page =
        [Item.u8 b.sb.command.ctorIdx, Item.u8 b.eb.command.ctorIdx, fl b.de, Item.u8 b.sb.feedback.ctorIdx,
          Item.u8 b.eb.feedback.ctorIdx,
          fl (decide (b.sb.command = .lifted ∧ b.sb.liftDone = true ∧ b.sb.feedback = .applied)),
          fl (decide (b.eb.command = .lifted ∧ b.eb.liftDone = true ∧ b.eb.feedback = .applied)),
          fl b.sb.stuck, fl b.eb.stuck, sbLeft, ebLeft, Item.u8 b.state.ctorIdx,
          fl (decide (b.state = .service ∨ b.state = .emergency)), escLeft, Item.u8 b.check.ctorIdx,
          Item.i32 (match b.check with
            | .passed a => a
            | .failed a => a
            | _ => 0),
          Item.u16 b.requiredDecel, fl b.ebLift.isSome, liftLeft, Item.u8 b.lastLevel.ctorIdx, fl b.lastFlag,
          Item.u8 b.captures.length, fl b.overflow, Item.u8 b.drops]) ∧
    (∀ c l d, l = s.link.get c → d = s.door.get c → ∃ since age close, since < 4294967296 ∧ age < 4294967296 ∧
      TimeLeft d.tClose close ∧ s.sectionItems (match c with
        | .a => 6
        | .b => 7) page =
        [fl (!l.live), fl l.takenTag.isSome, Item.u32 (if l.takenTag.isSome = true then since else 0), Item.u16 l.recordErrors,
          Item.u8 d.left.ctorIdx, Item.u8 d.right.ctorIdx] ++ o8 l.takenTag ++ cnt l.counters ++ cnt l.baselines ++
        [Item.u16 l.onboard] ++ o16 l.weigh ++ [Item.u32 (if l.weigh.isSome = true then age else 0),
          Item.u8 (bit l.attendant.ready + 2 * bit l.attendant.hold + 4 * bit l.attendant.alarm +
            8 * bit l.attendant.service),
          Item.u8 (bit l.faults.doorDrive + 2 * bit l.faults.counter),
          Item.u8 ((l.slot.map (·.ctorIdx + 1)).getD 0), Item.u8 l.tag,
          Item.u8 (bit (decide (s.trip.state = .preparing ∨ s.trip.state = .lifting)) +
            2 * bit (decide (s.cfg.active = none ∨ s.brake.state = .service ∨ s.brake.state = .emergency)) +
            4 * bit (s.trip.record.bind (·.controlled)).isSome + 8 * bit l.flag1 + 16 * bit l.flag2),
          Item.u8 d.state.ctorIdx, Item.u8 ((d.authority.map (·.ctorIdx + 1)).getD 0), Item.u8 d.retry] ++
        o8 (d.cycle.map (·.ctorIdx)) ++
        [close, fl d.arrival, fl d.memUnlocked, fl d.memNoAuthority, fl d.memWrongSide]) ∧
    (∀ d, s.cfg.active = some d → ∃ left : Grant → Item, (∀ g, TimeLeft (some g.timer) (left g)) ∧
      s.sectionItems 8 page = win s.board.windows.a ++ win s.board.windows.b ++
        (d.platforms.map fun p => Item.u8 (s.board.carry.getD p.1 0)) ++
        ((s.board.grants.drop (6 * page)).take 6).flatMap fun g =>
          [Item.u8 g.gate, Item.u8 g.car.ctorIdx, Item.u8 g.platform, Item.u8 g.kind.ctorIdx, Item.u32 g.id, Item.u8 g.category.code] ++
            o16 g.passIndex ++ [Item.u16 g.day, Item.u32 g.second, left g]) ∧
    s.sectionItems 9 page = (s.bus.gates.flatMap fun g =>
      [Item.u8 g.state.ctorIdx] ++ o8 g.platform ++ [Item.u8 g.misses, Item.u8 g.missCount, Item.u8 g.protocolErrors, fl g.lock] ++
        o8 g.faultCode ++ [fl g.decision.isSome]) ++ [Item.u8 s.bus.position] ∧
    (∀ c, c = s.store → s.sectionItems 10 page =
      [Item.u8 c.state.ctorIdx, Item.u8 c.plan, Item.u16 (passCapacity c.plan), Item.u16 (ringCapacity c.plan), Item.u16 c.passes.length,
        Item.u16 c.ring.length, Item.u16 c.cursor, Item.u8 c.cursorDir.ctorIdx] ++
      (c.classes.flatMap fun x => [Item.u8 x.category.code, fl x.enabled]) ++ [Item.u16 c.day, Item.u32 c.clock]) ∧
    s.sectionItems 11 page = ((s.store.deny.drop (32 * page)).take 32).flatMap fun e =>
      [Item.u32 e.base, Item.u8 e.k, Item.u8 e.kind.ctorIdx]) ∧
  ∀ (s : State) (seq code page : Byte), s.TakesRequests →
    (code.toNat ≤ 11 → page.toNat < s.hunting.sectionPages code.toNat →
      ∃ r, r = s.replied 0x3E#8 seq (.status
            { configured := s.cfg.active.isSome, trip := s.trip.state, pos := s.pos.pos, supervisor := s.brake.state,
              latch := s.brake.latch, store := s.store.state, linkErrors := s.port.linkErrors,
              dropped := s.port.dropped, reportsWaiting := s.port.reports.length,
              repliesWaiting := s.port.replies.length }
            (s.hunting.sectionPages code.toNat) (s.hunting.sectionItems code.toNat page.toNat)) ∧
        exec (.status seq [code, page]) s =
          .next { r with
            port := { r.port with dropped := false }, draws := s.draws + 1 }) ∧
    ((11 < code.toNat ∨ s.hunting.sectionPages code.toNat ≤ page.toNat) →
      exec (.status seq [code, page]) s = .next (s.replied 0x3E#8 seq (.plain .range)))

/-! ### The configuration store -/

/-- R16: which image gives which load result, and that an image which a write has completed (R13) loads; R12: the CRC-32, bit
by bit. R16, R161, R66, R152, R43: the end of the start-up load: on LOADED the gates stand as their GATE records say and the
live figures are those of the new configuration, with one STORE_CLEARING report; on any other result one FAULT report carries
it. The bytes over which length and CRC-32 of an image run are the model's (DESIGN CHOICE, assumption log 7), as is the FAULT
report before the STORE_CLEARING report (DESIGN CHOICE, log 16). That position, outputs, doors and windows stay as they are,
and that no TRIP report is sent, is DEDUCED, log 34, and that the trip state of a load that fails was UNCONFIGURED before is
DESIGN CHOICE, log 8. -/
def Obligations.LoadEndTakesTheImage : Prop :=
  (∀ i : Image,
    ((i.marker = false ∨ i.format ≠ 1) → loadImage i = (.imageAbsent, none)) ∧
    (i.marker = true → i.format = 1 →
      ((i.length ≠ (contentsBytes i.contents).length ∨ i.crc ≠ crc32 (imageBytes i)) → loadImage i = (.imageCrc, none)) ∧
      (i.length = (contentsBytes i.contents).length → i.crc = crc32 (imageBytes i) →
        (∀ k n c, validate i.contents = some (k, n, c) → loadImage i = (.imageContent, some (k, n, c))) ∧
        (validate i.contents = none → loadImage i = (.loaded, none))))) ∧
  (∀ (d : LineDesc) (n : Nat), validate d.toDraft = none → loadImage (writtenImage d n) = (.loaded, none) ∧
    (writtenImage d n).contents = d.toDraft ∧ (writtenImage d n).sequence = n) ∧
  (∀ (bs : List Byte) (b : Byte), crc32 [] = 0#32 ∧
    crc32 (bs ++ [b]) = ~~~(([0, 1, 2, 3, 4, 5, 6, 7].map b.getLsbD).foldl
      (fun (c : BitVec 32) x => if c.getLsbD 0 = x then c >>> 1 else (c >>> 1) ^^^ (0x04C11DB7#32).reverse)
      (~~~(crc32 bs)))) ∧
  ∀ s : State, s.cfg.commit = .loading →
    (∀ f, loadImage s.cfg.image = (.loaded, f) →
      ∃ t, exec .loadEnd s = .next t ∧
        t.cfg = { s.cfg with
          commit := .idle, draft := s.cfg.image.contents.complete.toDraft, active := some s.cfg.image.contents.complete
          sequence := s.cfg.image.sequence, loadResult := .loaded, loadFailure := none } ∧
        t.trip.state = .stranded ∧
        t.store = { s.store with
          state := .clearing, clearRunning := true, plan := s.cfg.image.contents.complete.plan, passes := [], ring := []
          cursor := 0, cursorDir := .up, classes := s.cfg.image.contents.complete.classes } ∧
        (∀ (j : Nat) (g : Gate), s.bus.gates[j]? = some g →
          (s.cfg.image.contents.complete.gate? (j + 1) = none →
            t.bus.gates[j]? = some { g with platform := none, lock := false, state := .disabled }) ∧
          (∀ q, s.cfg.image.contents.complete.gate? (j + 1) = some q →
            (q.enabled = false → t.bus.gates[j]? =
              some { g with platform := some q.platform, lock := false, state := .disabled }) ∧
            (q.enabled = true → g.state = .disabled → t.bus.gates[j]? =
              some { g with platform := some q.platform, misses := 0, state := .offline }))) ∧
        t.load.live = some (liveFigures s.cfg.image.contents.complete s.link s.board.windows) ∧
        t.port = (s.report (.gate (.storeClearing s.cfg.image.contents.complete.plan))).port ∧
        t.pos = s.pos ∧ t.brake = s.brake ∧ t.door = s.door ∧ t.board = s.board) ∧
    (∀ r f, loadImage s.cfg.image = (r, f) → r ≠ .loaded →
      ∃ t, exec .loadEnd s = .next t ∧
        t.cfg = { s.cfg with
          commit := .idle, draft := [], active := none, sequence := 0, loadResult := r, loadFailure := f } ∧
        t.trip = s.trip ∧ t.store.state = .clearing ∧ t.store.plan = 0 ∧ t.store.passes = [] ∧ t.store.ring = [] ∧
        t.bus.gates = s.bus.gates ∧ t.port = ((s.report (.loadFault r f)).report (.gate (.storeClearing 0))).port ∧
        t.pos = s.pos ∧ t.brake = s.brake ∧ t.door = s.door ∧ t.board = s.board)

/-- R3: CONFIG WRITE sets the listed fields of the draft record, and touches nothing else. Its rows in their order: BUSY
outside IDLE; RANGE for a kind, an index, a field number or a value out of range, or a field that stands twice; and OK with
its effect where none of these holds. 1.3: the code, the index range and the fields of every kind, each with its number, its
arrival range and its default; a platform field of a STOP record takes NONE 255 as well. That a remove flag above 1 is out of
range too is DESIGN CHOICE, assumption log 11. That no figures are passing afterwards is DESIGN CHOICE, assumption log 44. -/
def Obligations.ConfigWriteSetsTheDraftRecord : Prop :=
  (∀ (k : Kind) (i : Nat), Kind.ofCode k.code = some k ∧ (∀ n l, Kind.ofCode n = some l → l.code = n) ∧
    (k.hasIndex i = true ↔ (match k with
      | .zone | .fareClass => i ≤ 15
      | .platform => i ≤ 5
      | .stop => i ≤ 3
      | .mark => 1 ≤ i ∧ i ≤ 24
      | .gate => 1 ≤ i ∧ i ≤ 12
      | _ => i = 0)) ∧
    (∀ sp ∈ k.specs, sp.extra = if k = .stop ∧ sp.number ≠ 1 then some 255 else none) ∧
    (k.code, k.specs.map fun sp => (sp.number, sp.low, sp.high, sp.default)) = match k with
      | .line => (0x01, [(1, 100000, 4000000, none), (2, 1000, 15000, none), (3, 200, 2000, some 900),
          (4, 100, 2000, some 400), (5, 0, 10000, some 2000), (6, 100, 2000, some 500), (7, 200, 5000, some 1000),
          (8, 50, 500, some 150), (9, 100, 2000, some 400), (10, 50, 1000, some 250), (11, 50, 5000, some 1500),
          (12, 100, 2000, some 300), (13, 20, 500, some 100), (14, 100, 65535, none), (15, 100, 65535, none),
          (16, 10000, 500000, some 200000)])
      | .margin => (0x02, [(1, 0, 2000, some 300), (2, 0, 25, some 4), (3, 0, 4000, some 600), (4, 0, 50, some 8),
          (5, 0, 2000, some 200)])
      | .profile => (0x03, [(1, 100, 1500, some 600), (2, 100, 1000, some 300), (3, 500, 20000, some 3000),
          (4, 300, 2000, some 1000)])
      | .car => (0x04, [(1, 1, 250, none), (2, 1000, 60000, none), (3, 50, 120, some 80), (4, 0, 30000, none)])
      | .zone => (0x05, [(1, 0, 4000000, none), (2, 500, 15000, none), (3, 0, 255, none)])
      | .platform => (0x06, [(1, 0, 3, none), (2, 0, 1, none), (3, 0, 4000000, none), (4, 0, 1, none), (5, 0, 1, some 0)])
      | .stop => (0x07, [(1, 0, 4000000, none), (2, 0, 5, some 255), (3, 0, 5, some 255)])
      | .mark => (0x08, [(1, 0, 4000000, none)])
      | .gate => (0x09, [(1, 0, 5, none), (2, 0, 1, some 1)])
      | .fareClass => (0x0A, [(1, 0, 3, some 2), (2, 0, 1, some 1)])
      | .threshold => (0x0B, [(1, 0, 3, some 0), (2, 0, 3, some 0), (3, 0, 3, some 1), (4, 0, 3, some 2)])
      | .timing => (0x0C, [(1, 0, 3, some 1), (2, 0, 3, some 2), (3, 0, 3, some 1), (4, 0, 3, some 1), (5, 0, 3, some 1)])
      | .door => (0x0D, [(1, 0, 1, some 0), (2, 0, 7, some 3), (3, 0, 1, some 0)])
      | .store => (0x0E, [(1, 0, 3, some 0)])) ∧
  ∀ (s : State) (seq : Byte) (p : List Byte) (a : ConfigWriteArgs), s.port.restarting = false →
    s.port.replies.length < Config.replyQueueSize → writePayload p = some a →
    (s.cfg.commit ≠ .idle → exec (.configWrite seq p) s = .next (s.replied 0x01#8 seq (.plain .busy))) ∧
    (s.cfg.commit = .idle → (Kind.ofCode a.kind = none ∨ 1 < a.remove) →
      exec (.configWrite seq p) s = .next (s.replied 0x01#8 seq (.plain .range))) ∧
    (∀ k, Kind.ofCode a.kind = some k → s.cfg.commit = .idle → a.remove = 0 →
      ((k.hasIndex a.index = false ∨ ¬(a.fields.map (·.1)).Nodup ∨
          ∃ f ∈ a.fields, ¬∃ sp ∈ k.specs, sp.number = f.1 ∧ ((sp.low ≤ f.2 ∧ f.2 ≤ sp.high) ∨ sp.extra = some f.2)) →
        exec (.configWrite seq p) s = .next (s.replied 0x01#8 seq (.plain .range))) ∧
      (k.hasIndex a.index = true → (a.fields.map (·.1)).Nodup →
        (∀ f ∈ a.fields, ∃ sp ∈ k.specs, sp.number = f.1 ∧ ((sp.low ≤ f.2 ∧ f.2 ≤ sp.high) ∨ sp.extra = some f.2)) →
        exec (.configWrite seq p) s =
          .next { s.replied 0x01#8 seq (.plain .ok) with
            cfg := { s.cfg with draft := s.cfg.draft.write k a.index a.fields } }))

/-- R4: CONFIG WRITE with the remove flag set removes the named record from the draft; its rows in their order. A record of
any kind may be removed. A record written again after its removal starts with every field absent. At a commit, a removed
record of a kind that may be absent is taken with its defaults, and a removed required record fails with REQUIRED_RECORD. -/
def Obligations.ConfigRemoveRemovesTheRecord : Prop :=
  ∀ (s : State) (seq : Byte) (p : List Byte) (a : ConfigWriteArgs), s.port.restarting = false →
    s.port.replies.length < Config.replyQueueSize → writePayload p = some a → a.remove = 1 →
    (s.cfg.commit ≠ .idle →
      ∃ f, exec (.configRemove seq p) s = .next (s.afterReply 0x01#8 seq (.plain .busy) f)) ∧
    (s.cfg.commit = .idle → Kind.ofCode a.kind = none →
      ∃ f, exec (.configRemove seq p) s = .next (s.afterReply 0x01#8 seq (.plain .range) f)) ∧
    (∀ k, Kind.ofCode a.kind = some k → s.cfg.commit = .idle →
      (k.hasIndex a.index = false →
        ∃ f, exec (.configRemove seq p) s = .next (s.afterReply 0x01#8 seq (.plain .range) f)) ∧
      (k.hasIndex a.index = true → a.fields ≠ [] →
        ∃ f, exec (.configRemove seq p) s = .next (s.afterReply 0x01#8 seq (.plain .range) f)) ∧
      (k.hasIndex a.index = true → a.fields = [] → s.cfg.draft.has k a.index = false →
        ∃ f, exec (.configRemove seq p) s = .next (s.afterReply 0x01#8 seq (.plain .absent) f)) ∧
      (k.hasIndex a.index = true → a.fields = [] → s.cfg.draft.has k a.index = true →
        ∃ f, exec (.configRemove seq p) s =
          .next { s.afterReply 0x01#8 seq (.plain .ok) f with
            cfg := { s.cfg with draft := s.cfg.draft.remove k a.index } }) ∧
      (s.cfg.draft.remove k a.index).has k a.index = false ∧
      (∀ l j, (l, j) ≠ (k, a.index) → (s.cfg.draft.remove k a.index).fields? l j = s.cfg.draft.fields? l j) ∧
      (∀ n v, ((s.cfg.draft.remove k a.index).write k a.index [(n, v)]).fields? k a.index = some [(n, v)]) ∧
      (k.hasIndex a.index = true → (k = .margin ∨ k = .profile ∨ k = .fareClass ∨ k = .threshold ∨ k = .timing ∨
          k = .door ∨ k = .store) →
        ∃ fs, (s.cfg.draft.remove k a.index).complete.toDraft.fields? k a.index = some fs ∧
          ∀ x ∈ k.specs, x.default.isSome = true ∧ fs.lookup x.number = x.default) ∧
      ((a.index = 0 ∧ (k = .line ∨ k = .car ∨ k = .zone ∨ k = .stop)) ∨ (a.index = 1 ∧ k = .stop) →
        (∀ l j x, l.hasIndex j = true → (l.code < k.code ∨ (l = k ∧ j < a.index)) →
          ¬(s.cfg.draft.remove k a.index).FailsCheck l j x) →
        validate (s.cfg.draft.remove k a.index) = some (k.code, a.index, 1)))

/-- R2, R3, R4: what a write and a removal leave in the draft: the listed fields have their values, the other fields of the
record and every other record are as they were; a removed record is absent. -/
def Obligations.DraftHoldsWhatIsWritten : Prop :=
  ∀ (d : Draft) (k : Kind) (i : Nat) (fs : List (Nat × Nat)), (fs.map (·.1)).Nodup →
    (d.write k i fs).has k i = true ∧
    (∀ n v, (n, v) ∈ fs → (((d.write k i fs).fields? k i).getD []).lookup n = some v) ∧
    (∀ n, n ∉ fs.map (·.1) →
      (((d.write k i fs).fields? k i).getD []).lookup n = ((d.fields? k i).getD []).lookup n) ∧
    (∀ l j, (l, j) ≠ (k, i) → (d.write k i fs).fields? l j = d.fields? l j) ∧
    (d.remove k i).has k i = false ∧
    (∀ l j, (l, j) ≠ (k, i) → (d.remove k i).fields? l j = d.fields? l j)

/-- R5: CONFIG READ returns each field of the record, of the draft (source 0) or of the active configuration (source 1), and
changes nothing; its tests in their order: BUSY outside IDLE; RANGE for an unknown source or kind or an index out of range;
for ACTIVE, STATE while UNCONFIGURED; then ABSENT. From ACTIVE every field has a value, and a record of a kind that is not
counted is never absent, where the class map has its 16 records. That no figures are passing afterwards is DESIGN CHOICE,
assumption log 44. -/
def Obligations.ConfigReadShowsTheRecord : Prop :=
  (∀ (s : State) (seq src kb ib : Byte), s.port.restarting = false → s.port.replies.length < Config.replyQueueSize →
    (s.cfg.commit ≠ .idle → exec (.configRead seq [src, kb, ib]) s = .next (s.replied 0x02#8 seq (.plain .busy))) ∧
    (s.cfg.commit = .idle → (1 < src.toNat ∨ ∀ k, Kind.ofCode kb.toNat = some k → k.hasIndex ib.toNat = false) →
      exec (.configRead seq [src, kb, ib]) s = .next (s.replied 0x02#8 seq (.plain .range)))) ∧
  (∀ (d : LineDesc) (k : Kind) (i : Nat), k.hasIndex i = true →
    (∀ fs, d.toDraft.fields? k i = some fs → ∀ x ∈ k.specs, (fs.lookup x.number).isSome = true) ∧
    (d.toDraft.fields? k i = none ↔ (k = .zone ∧ d.zones.length ≤ i) ∨ (k = .stop ∧ d.stops.length ≤ i) ∨
      (k = .platform ∧ d.platform? i = none) ∨ (k = .mark ∧ d.mark? i = none) ∨ (k = .gate ∧ d.gate? i = none) ∨
      (k = .fareClass ∧ d.classes.length ≤ i))) ∧
  ∀ (s : State) (seq kb ib : Byte) (k : Kind), s.TakesRequests → s.cfg.commit = .idle → Kind.ofCode kb.toNat = some k →
    k.hasIndex ib.toNat = true →
    (∀ fs, s.cfg.draft.fields? k ib.toNat = some fs →
      exec (.configRead seq [0#8, kb, ib]) s =
        .next (s.replied 0x02#8 seq (.record (k.specs.map fun f => (f.number, fs.lookup f.number))))) ∧
    (s.cfg.draft.fields? k ib.toNat = none →
      exec (.configRead seq [0#8, kb, ib]) s = .next (s.replied 0x02#8 seq (.plain .absent))) ∧
    (∀ d fs, s.cfg.active = some d → d.toDraft.fields? k ib.toNat = some fs →
      exec (.configRead seq [1#8, kb, ib]) s =
        .next (s.replied 0x02#8 seq (.record (k.specs.map fun f => (f.number, fs.lookup f.number))))) ∧
    (∀ d, s.cfg.active = some d → d.toDraft.fields? k ib.toNat = none →
      exec (.configRead seq [1#8, kb, ib]) s = .next (s.replied 0x02#8 seq (.plain .absent))) ∧
    (s.cfg.active = none → exec (.configRead seq [1#8, kb, ib]) s = .next (s.replied 0x02#8 seq (.plain .state)))

/-- R6, R7, R11, R13: CONFIG COMMIT: a refused or failed commit changes nothing; an accepted one destroys the format marker
and holds its reply. R7 to R10: validation gives the first failing check in the order of kind code, index and check code, and
none where no record fails one. That no figures are passing afterwards is DESIGN CHOICE, assumption log 44. -/
def Obligations.ConfigCommitStartsTheWrite : Prop :=
  ∀ (s : State) (seq : Byte), s.TakesRequests →
    (s.cfg.commit = .writing → exec (.configCommit seq []) s = .next (s.replied 0x03#8 seq (.plain .busy))) ∧
    (s.cfg.commit = .idle → s.store.state = .clearing →
      exec (.configCommit seq []) s = .next (s.replied 0x03#8 seq (.plain .busy))) ∧
    (s.cfg.commit = .idle → s.store.state = .ready →
      (s.trip.state.atRest = false ∨ (s.brake.sb.command = .lifted ∧ s.brake.eb.command = .lifted) ∨
        s.board.windows.a.state ≠ .shut ∨ s.board.windows.b.state ≠ .shut ∨ s.board.grants ≠ []) →
      exec (.configCommit seq []) s = .next (s.replied 0x03#8 seq (.plain .state))) ∧
    (s.cfg.commit = .idle → s.store.state = .ready → s.trip.state.atRest = true →
      (s.brake.sb.command = .applied ∨ s.brake.eb.command = .applied) → s.board.windows.a.state = .shut →
      s.board.windows.b.state = .shut → s.board.grants = [] →
      (∀ k i c, validate s.cfg.draft = some (k, i, c) →
        exec (.configCommit seq []) s = .next (s.replied 0x03#8 seq (.invalid k i c))) ∧
      (validate s.cfg.draft = none →
        exec (.configCommit seq []) s =
          .next { s.hunting.figuresSettled with
            cfg := { s.cfg with
              commit := .writing, image := { s.cfg.image with marker := false }, held := some seq } })) ∧
    (∀ dr : Draft,
      (validate dr = none ↔ ∀ k i c, k.hasIndex i = true → ¬dr.FailsCheck k i c) ∧
      ∀ k i c, validate dr = some (k.code, i, c) ↔
        k.hasIndex i = true ∧ dr.FailsCheck k i c ∧ (∀ x, x < c → ¬dr.FailsCheck k i x) ∧
          ∀ l j x, l.hasIndex j = true → (l.code < k.code ∨ (l = k ∧ j < i)) → ¬dr.FailsCheck l j x)

/-- R11, R13, R14: at the end of the image write the draft is active and complete, the image and its sequence stand, the
position is UNREFERENCED where the scale or a mark changed, and the store takes the classes. On a new plan a clear begins,
which empties the pass table and the ring, sets the cursor to 0 UP and leaves deny list, day and clock (R161); on an
unchanged plan passes, ring, cursor and store state stay as they were, also where STORE PLAN had set another (R14, R15). The
trip is PARKED at the stop that the at-stop test on the latest view reports, else STRANDED (R31); authority that fails its
conditions is withdrawn (R120, R121). With both windows SHUT, no deferred open and no notice waiting, each gate entry follows
its GATE record (R152), the carry-over stays where the PLATFORM record is unchanged, and the live figures are recomputed; and
where no car loses authority or stands in a door violation, authority and the brake supervisor stay as they are. R134: a
deferred open is tested then, on the new configuration, and the flag is cleared in every case. R14: until the next sample the
monitor keeps W_corr and W_id of the configuration before; that it keeps the oldest of several, and none at a first
activation, is DEDUCED, assumption log 56. The model's own choices in it: a newly enabled gate starts with consecutive misses
0 (DEDUCED, assumption log 13), no view is published and the next sample counts its travel from the previous one (DEDUCED,
log 22), and a side of authority other than the platform's fails the conditions (DEDUCED, log 23). R35, R88, R171, R11: the
reports of an activation that withdraws nothing and opens no window, and the held reply OK: POSITION where the position state
changes, taken first by R14 (its positions under the new scale are DEDUCED, log 22), TRIP with CONFIG at every activation
(DESIGN CHOICE, log 57), and STORE_CLEARING where the plan changed, after it: the two are reports of different blocks, which
R177 leaves unordered, and their order is DESIGN CHOICE, log 16. -/
def Obligations.ImageWriteEndActivatesTheDraft : Prop :=
  ∀ s : State, s.cfg.commit = .writing →
    ∃ (n : Nat) (d : LineDesc) (t : State), exec .imageWriteEnd s = .next t ∧ d = s.cfg.draft.complete ∧
      n = (if s.cfg.active = none then 1 else min 65535 (s.cfg.sequence + 1)) ∧
      t.cfg = { s.cfg with
        commit := .idle, draft := d.toDraft, active := some d, image := writtenImage d n, sequence := n, held := none } ∧
      t.pos = { (if d.scaleChanged s.cfg.active then s.pos.unreference d else s.pos) with
        oldWindows := s.cfg.active.map fun o => s.pos.oldWindows.getD (o.line.corrWindow, o.line.idWindow) } ∧
      (d.scaleChanged s.cfg.active = true ↔ ∀ o, s.cfg.active = some o → d.line.length ≠ o.line.length ∨
        d.line.countsP ≠ o.line.countsP ∨ d.line.countsQ ≠ o.line.countsQ ∨ d.marks ≠ o.marks) ∧
      (d.scaleChanged s.cfg.active = true → t.pos.pos = .unreferenced ∧
        t.pos.p.count = s.pos.p.count ∧ t.pos.p.offset = 0 ∧ t.pos.q.count = s.pos.q.count ∧ t.pos.q.offset = 0 ∧
        t.pos.p.history = List.replicate 8 ((s.pos.p.count * 1000).tdiv d.line.countsP) ∧
        t.pos.q.history = List.replicate 8 ((s.pos.q.count * 1000).tdiv d.line.countsQ) ∧
        t.pos.corrected = s.pos.corrected ∧ t.pos.mismatch = s.pos.mismatch ∧ t.pos.unexpected = s.pos.unexpected ∧
        t.pos.missed = s.pos.missed ∧ t.pos.view = s.pos.view) ∧
      (∀ k, d.scaleChanged s.cfg.active = false → s.pos.pos = .confirmed → k < d.stops.length →
        distance s.pos.view.xP (d.stopX k) ≤ d.line.stopWindow →
        (∀ j, j < k → d.line.stopWindow < distance s.pos.view.xP (d.stopX j)) → t.trip.state = .parked k) ∧
      ((d.scaleChanged s.cfg.active = true ∨ s.pos.pos ≠ .confirmed ∨
          ∀ k, k < d.stops.length → d.line.stopWindow < distance s.pos.view.xP (d.stopX k)) →
        t.trip.state = .stranded) ∧
      (∀ c, (s.brake.sb.command = .applied ∨ (s.door.get (otherCar c)).authority = none) →
        ¬s.MeetsAuthority d t.trip.state c → (t.door.get c).authority = none) ∧
      (s.notices = [] →
        (∀ c, ((s.door.get c).authority = none ∨ s.MeetsAuthority d t.trip.state c) ∧
          (s.door.get c).state ≠ .unsecured ∧ s.wrongSideOpen c = false) →
        t.brake = s.brake ∧ ∀ c, (t.door.get c).authority = (s.door.get c).authority ∧
          (t.door.get c).state = (s.door.get c).state) ∧
      (∀ c, (t.window c).deferred = false) ∧
      (s.notices = [] →
        (∀ c, ((s.door.get c).authority = none ∨ s.MeetsAuthority d t.trip.state c) ∧
          (s.door.get c).state ≠ .unsecured ∧ s.wrongSideOpen c = false) →
        ∀ c k i r, (s.window c).state = .shut → t.trip.state = .parked k → d.stopPlatform? k c = some i →
          d.platform? i = some r →
          (((s.window c).deferred = false ∨ (s.door.get c).state ≠ .opened ∨ r.autoWindow = false) →
            t.window c = { s.window c with deferred := false }) ∧
          ((s.window c).deferred = true → (s.door.get c).state = .opened → r.autoWindow = true →
            (t.window c).state = .opened ∧ (t.window c).platform = some i ∧
              ((s.window (otherCar c)).deferred = false → t.window c =
                { state := .opened, platform := some i, inflight := 0, reason := none, granted := 0, committed := 0
                  released := 0, unverified := 0, carryIn := (t.window c).pending, deferred := false
                  pending := min (if s.cfg.active.bind (fun o => o.platform? i) = some r then s.board.carry.getD i 0
                    else 0) d.car.capacity }))) ∧
      (s.notices = [] → (∀ c, (s.window c).state = .shut ∧ (s.window c).deferred = false) →
        (∀ (i : Nat) (g : Gate), s.bus.gates[i]? = some g →
          (d.gate? (i + 1) = none →
            t.bus.gates[i]? = some { g with platform := none, lock := false, state := .disabled }) ∧
          (∀ r, d.gate? (i + 1) = some r →
            (r.enabled = false → t.bus.gates[i]? =
              some { g with platform := some r.platform, lock := false, state := .disabled }) ∧
            (r.enabled = true → g.state = .disabled → t.bus.gates[i]? =
              some { g with platform := some r.platform, misses := 0, state := .offline }) ∧
            (r.enabled = true → g.state ≠ .disabled → t.bus.gates[i]? =
              some { g with platform := some r.platform }))) ∧
        (∀ (p n : Nat), s.board.carry[p]? = some n → t.board.carry[p]? =
          some (if (d.platform? p).isSome = true ∧ s.cfg.active.bind (fun o => o.platform? p) = d.platform? p then n
            else 0)) ∧
        t.load.live = some (liveFigures d s.link s.board.windows)) ∧
      (s.cfg.active.map (·.plan) ≠ some d.plan → t.store = { s.store with
        state := .clearing, clearRunning := true, plan := d.plan, passes := [], ring := [], cursor := 0, cursorDir := .up
        classes := d.classes }) ∧
      (s.cfg.active.map (·.plan) = some d.plan → t.store = { s.store with classes := d.classes }) ∧
      (∀ q, s.cfg.held = some q → s.port.sending.isSome = true →
        t.port.replies = s.port.replies ++ [⟨0x83#8, q, .plain .ok⟩]) ∧
      (s.notices = [] →
        (∀ c, ((s.door.get c).authority = none ∨ s.MeetsAuthority d t.trip.state c) ∧
          (s.door.get c).state ≠ .unsecured ∧ s.wrongSideOpen c = false) →
        (∀ c, (s.window c).deferred = false) →
        ∃ u v w : State,
          u = (if d.scaleChanged s.cfg.active = true ∧ s.pos.pos ≠ .unreferenced then
            s.report (.position true false false false none .unreferenced ((s.pos.p.count * 1000).tdiv d.line.countsP)
              ((s.pos.q.count * 1000).tdiv d.line.countsQ)) else s) ∧
          v = u.report (.trip s.recordDeparture (s.trip.record.map (·.kind)) s.trip.state t.trip.state t.trip.state.stop?
            .config s.pos.view.xP) ∧
          w = (if s.cfg.active.map (·.plan) = some d.plan then v else v.report (.gate (.storeClearing d.plan))) ∧
          (s.cfg.held = none → t.port = w.port) ∧
          (∀ q, s.cfg.held = some q → t.port = (w.reply ⟨0x83#8, q, .plain .ok⟩).port))

/-! ### The credential store -/

/-- R170: SET DAY, SET CLOCK, and one expiry of the one-second timer. That no figures are passing afterwards is DESIGN
CHOICE, assumption log 44. -/
def Obligations.DayAndClock : Prop :=
  ∀ (s : State) (seq a b c d : Byte), s.TakesRequests →
    exec (.setDay seq [a, b]) s =
      .next { s.replied 0x38#8 seq (.plain .ok) with store := { s.store with day := be16 a b } } ∧
    (be32 a b c d ≤ 86399 →
      exec (.setClock seq [a, b, c, d]) s =
        .next { s.replied 0x39#8 seq (.plain .ok) with store := { s.store with clock := be32 a b c d } }) ∧
    (86399 < be32 a b c d → exec (.setClock seq [a, b, c, d]) s = .next (s.replied 0x39#8 seq (.plain .range))) ∧
    (∀ u : State,
      (u.store.clock < 86399 →
        exec .clockTick u = .next { u.figuresSettled with store := { u.store with clock := u.store.clock + 1 } }) ∧
      (u.store.clock = 86399 →
        exec .clockTick u = .next { u.figuresSettled with
          store := { u.store with clock := 0, day := min 65535 (u.store.day + 1) } }))

/-- R165: CURSOR SET with its RANGE rows, and what PASS READ returns and moves; loads and deletes do not move the cursor. -/
def Obligations.CursorSetAndPassRead : Prop :=
  (∀ (s t : State) (seq : Byte) (p : List Byte),
    (exec (.passLoad seq p) s = .next t ∨ exec (.passDelete seq p) s = .next t) →
    t.store.cursor = s.store.cursor ∧ t.store.cursorDir = s.store.cursorDir) ∧
  ∀ (s : State) (seq h l e : Byte), s.TakesRequests → s.StoreOpen →
    (be16 h l ≤ 1024 →
      (∃ f, exec (.cursorSet seq [h, l, 0#8]) s =
        .next { s.afterReply 0x33#8 seq (.plain .ok) f with
          store := { s.store with cursor := be16 h l, cursorDir := .up } }) ∧
      (∃ f, exec (.cursorSet seq [h, l, 1#8]) s =
        .next { s.afterReply 0x33#8 seq (.plain .ok) f with
          store := { s.store with cursor := be16 h l, cursorDir := .down } })) ∧
    ((1024 < be16 h l ∨ 1 < e.toNat) →
      ∃ f, exec (.cursorSet seq [h, l, e]) s = .next (s.afterReply 0x33#8 seq (.plain .range) f)) ∧
    (s.store.cursorDir = .up →
      ∃ c m f, c = min s.store.cursor s.store.passes.length ∧ m = min 8 (s.store.passes.length - c) ∧
        exec (.passRead seq []) s =
          .next { s.afterReply 0x32#8 seq (.passes ((s.store.passes.drop c).take 8) (c + m)) f with
            store := { s.store with cursor := c + m } }) ∧
    (s.store.cursorDir = .down →
      ∃ c m f, c = min s.store.cursor s.store.passes.length ∧ m = min 8 c ∧
        exec (.passRead seq []) s =
          .next { s.afterReply 0x32#8 seq (.passes ((s.store.passes.drop (c - m)).take m).reverse (c - m)) f with
            store := { s.store with cursor := c - m } })

/-- R164, R160: PASS LOAD loads a new record at its place in id order, or replaces the record of its id; PASS DELETE takes
the record of its id out; both answer BUSY and change nothing while the pass is in use, that is while a decision is open or a
grant in flight for a PASS with its id. 9.3: the pass capacity of each plan. That no figures are passing afterwards is DESIGN
CHOICE, assumption log 44. -/
def Obligations.PassLoadAndDelete : Prop :=
  (passCapacity 0 = 768 ∧ passCapacity 1 = 640 ∧ passCapacity 2 = 512 ∧ passCapacity 3 = 896) ∧
  (∀ (s : State) (i : Nat), s.passInUse i = true ↔
    (∃ g ∈ s.bus.gates, ∃ x, g.decision = some x ∧ x.credential.kind = .pass ∧ x.credential.id.toNat = i) ∨
      ∃ y ∈ s.board.grants, y.kind = .pass ∧ y.id = i) ∧
  ∀ (s : State) (seq : Byte), s.TakesRequests → s.StoreOpen →
    (∀ (p : List Byte) (r : PassRec), s.StoreLaw → passPayload p = some r → r.cls ≤ 15 → r.firstDay ≤ r.lastDay →
      (s.passInUse r.id = true → exec (.passLoad seq p) s = .next (s.replied 0x30#8 seq (.plain .busy))) ∧
      (s.passInUse r.id = false → s.store.pass? r.id = none → passCapacity s.store.plan ≤ s.store.passes.length →
        exec (.passLoad seq p) s = .next (s.replied 0x30#8 seq (.plain .full))) ∧
      (s.passInUse r.id = false → s.store.pass? r.id = none → s.store.passes.length < passCapacity s.store.plan →
        ∃ i l, (∀ j, j < i → ∃ x, l[j]? = some x ∧ x.id < r.id) ∧ l[i]? = some r ∧
          (∀ j x, i < j → l[j]? = some x → r.id < x.id) ∧ l.eraseIdx i = s.store.passes ∧
          exec (.passLoad seq p) s =
            .next { s.replied 0x30#8 seq (.passLoaded false i) with store := { s.store with passes := l } }) ∧
      (∀ i, s.passInUse r.id = false → s.store.passIndex? r.id = some i →
        exec (.passLoad seq p) s =
          .next { s.replied 0x30#8 seq (.passLoaded true i) with
            store := { s.store with passes := s.store.passes.set i r } })) ∧
    (∀ a b c d : Byte,
      (s.store.pass? (be32 a b c d) = none →
        exec (.passDelete seq [a, b, c, d]) s = .next (s.replied 0x31#8 seq (.plain .absent))) ∧
      ((s.store.pass? (be32 a b c d)).isSome = true → s.passInUse (be32 a b c d) = true →
        exec (.passDelete seq [a, b, c, d]) s = .next (s.replied 0x31#8 seq (.plain .busy))) ∧
      ((s.store.pass? (be32 a b c d)).isSome = true → s.passInUse (be32 a b c d) = false →
        exec (.passDelete seq [a, b, c, d]) s =
          .next { s.replied 0x31#8 seq (.plain .ok) with
            store := { s.store with passes := s.store.passes.filter (·.id != be32 a b c d) } }))

/-- R168, R160: DENY ADD and DENY REMOVE, on the base id with its lowest k bits taken as 0. That no figures are passing
afterwards is DESIGN CHOICE, assumption log 44. -/
def Obligations.DenyAddAndDenyRemove : Prop :=
  ∀ (s : State) (seq a b c d k kind : Byte) (w : DenyKind) (e : DenyRec), s.TakesRequests → s.StoreOpen →
    k.toNat ≤ 8 → denyKindOfCode kind = some w →
    e = ⟨be32 a b c d / 2 ^ k.toNat * 2 ^ k.toNat, k.toNat, w⟩ →
    (e ∈ s.store.deny →
      exec (.denyAdd seq [a, b, c, d, k, kind]) s = .next (s.replied 0x34#8 seq (.plain .duplicate)) ∧
      exec (.denyRemove seq [a, b, c, d, k, kind]) s =
        .next { s.replied 0x35#8 seq (.plain .ok) with store := { s.store with deny := s.store.deny.erase e } }) ∧
    (e ∉ s.store.deny →
      exec (.denyRemove seq [a, b, c, d, k, kind]) s = .next (s.replied 0x35#8 seq (.plain .absent)) ∧
      (128 ≤ s.store.deny.length →
        exec (.denyAdd seq [a, b, c, d, k, kind]) s = .next (s.replied 0x34#8 seq (.plain .full))) ∧
      (s.store.deny.length < 128 →
        exec (.denyAdd seq [a, b, c, d, k, kind]) s =
          .next { s.replied 0x34#8 seq (.plain .ok) with store := { s.store with deny := s.store.deny ++ [e] } }))

/-- R167, R162, R161: TOKEN FLUSH empties the ring; STORE PLAN begins a clear with its plan; the clear ends in READY. R160:
while the part is UNCONFIGURED the seven credential requests are refused STATE, and while the store is CLEARING, BUSY, before
any other test; a field out of its range is refused RANGE. R162: the rows that refuse STORE PLAN, in their order. That no
figures are passing afterwards is DESIGN CHOICE, assumption log 44. -/
def Obligations.FlushPlanAndClear : Prop :=
  (∀ (s : State) (seq : Byte) (b : ReplyBody), s.TakesRequests →
    ((if s.unconfigured = true then some (.plain .state)
        else if s.store.state = .clearing then some (.plain .busy)
        else none) = some b →
      (∀ p r, passPayload p = some r → exec (.passLoad seq p) s = .next (s.replied 0x30#8 seq b)) ∧
      (∀ w x y z : Byte, exec (.passDelete seq [w, x, y, z]) s = .next (s.replied 0x31#8 seq b)) ∧
      exec (.passRead seq []) s = .next (s.replied 0x32#8 seq b) ∧
      (∀ h l e : Byte, exec (.cursorSet seq [h, l, e]) s = .next (s.replied 0x33#8 seq b)) ∧
      (∀ p a, denyPayload p = some a → exec (.denyAdd seq p) s = .next (s.replied 0x34#8 seq b) ∧
        exec (.denyRemove seq p) s = .next (s.replied 0x35#8 seq b)) ∧
      exec (.tokenFlush seq []) s = .next (s.replied 0x36#8 seq b)) ∧
    (s.StoreOpen →
      (∀ p r, passPayload p = some r → (15 < r.cls ∨ r.lastDay < r.firstDay) →
        exec (.passLoad seq p) s = .next (s.replied 0x30#8 seq (.plain .range))) ∧
      (∀ w x y z k kind : Byte, (8 < k.toNat ∨ denyKindOfCode kind = none) →
        exec (.denyAdd seq [w, x, y, z, k, kind]) s = .next (s.replied 0x34#8 seq (.plain .range)) ∧
        exec (.denyRemove seq [w, x, y, z, k, kind]) s = .next (s.replied 0x35#8 seq (.plain .range)))) ∧
    (∀ plan : Byte,
      (if s.cfg.commit = .writing then some (.plain .busy)
        else if s.unconfigured = true then some (.plain .state)
        else if 3 < plan.toNat then some (.plain .range)
        else if s.store.state = .clearing then some (.plain .busy)
        else if (s.window .a).state ≠ .shut ∨ (s.window .b).state ≠ .shut ∨ s.board.grants ≠ [] then
          some (.plain .state)
        else none) = some b →
      exec (.storePlan seq [plan]) s = .next (s.replied 0x37#8 seq b))) ∧
  ∀ (s : State) (seq p : Byte), s.TakesRequests → s.StoreOpen →
    exec (.tokenFlush seq []) s =
      .next { s.replied 0x36#8 seq (.plain .ok) with store := { s.store with ring := [] } } ∧
    (s.cfg.commit = .idle → p.toNat ≤ 3 → s.board.windows.a.state = .shut → s.board.windows.b.state = .shut →
      s.board.grants = [] →
      exec (.storePlan seq [p]) s =
        .next ({ s.replied 0x37#8 seq (.plain .ok) with
          store := { s.store with
            state := .clearing, clearRunning := true, plan := p.toNat, passes := [], ring := [], cursor := 0
            cursorDir := .up } }.report (.gate (.storeClearing p.toNat)))) ∧
    (∀ u : State, u.store.clearRunning = true →
      exec .storeClearEnd u =
        .next ({ u.figuresSettled with store := { u.store with state := .ready, clearRunning := false } }.report
          (.gate (.storeReady u.store.plan (passCapacity u.store.plan) (ringCapacity u.store.plan)))))

/-! ### The trip controller -/

/-- R67, R64, R68, R69, R71, R72: an accepted DISPATCH with both cars secured goes through PREPARING to step 3 in the same
event, and prepares its trip: it waits on a HOLD flag, is abandoned with the reason of the first failing interlock, or enters
LIFTING with its snapshot, its cap and the lift timer; the snapshot holds departure, direction, both payloads with whether
each came from the weigh, U and every a_eff (R46). The departure count advances in every case. In every state, step 3 without
a HOLD flag abandons the departure with the reason of the first interlock that fails in the order of R69, and enters LIFTING
where none fails. R137, R138: step 1 puts every OPEN window to CLOSING, or shuts it at once without a grant in flight, and
waits for the windows that are not SHUT; with both SHUT step 2 is taken. An accepted DISPATCH with a window that still has a
grant in flight waits in step 1 with its window CLOSING. R88, R151: the reply OK and the TRIP reports DISPATCHED and LIFTING,
or the reason of the abandonment, and the reports of windows that close or shut in step 1, car A's before car B's (DESIGN
CHOICE, assumption log 16); that the report of an abandonment shows no record is DEDUCED, log 17. That no figures are passing
afterwards is DESIGN CHOICE, assumption log 44. -/
def Obligations.DispatchPreparesTheTrip : Prop :=
  (∀ (s : State) (d : LineDesc) (r : TripRecord), s.cfg.active = some d → s.trip.record = some r → s.holds .a = false →
    s.holds .b = false →
    (∀ reason, s.failedInterlock d r = some reason →
      s.stepThree = ({ s with trip := { s.trip with step := 3, holdWait := false } }).abandon reason) ∧
    (s.failedInterlock d r = none →
      s.stepThree = ({ s with trip := { s.trip with step := 3, holdWait := false } }).enterLifting)) ∧
  (∀ s : State, s.trip.state = .preparing → s.trip.step = 1 →
    ((∀ c, (s.window c).state = .shut) → s.stepOneTest = s.stepTwo) ∧
    ((∃ c, (s.window c).state ≠ .shut) → s.stepOneTest = s) ∧
    ((∀ c, (s.window c).state = .shut ∨ ((s.window c).state = .opened ∧ (s.window c).inflight = 0)) →
      s.stepOne = ((s.closeWindow .a .preparing).closeWindow .b .preparing).stepTwo ∧
        ∀ c, (((s.closeWindow .a .preparing).closeWindow .b .preparing).window c).state = .shut) ∧
    ((∃ c, (s.window c).state = .closing ∨ ((s.window c).state = .opened ∧ 0 < (s.window c).inflight)) →
      s.stepOne.trip = s.trip ∧ s.stepOne.door = s.door ∧ s.stepOne.brake = s.brake ∧ ∀ c, s.ClosesWindow s.stepOne c)) ∧
  ∀ (s : State) (seq dest cls : Byte) (k : Nat) (c : SpeedClass) (d : LineDesc) (r : TripRecord),
    s.TakesRequests → s.cfg.commit = .idle → s.cfg.active = some d → s.trip.state = .parked k →
    s.brake.latch = false → s.pos.view.pos = .confirmed → classOfCode cls = some c → dest.toNat < d.stops.length →
    dest.toNat ≠ k →
    r = { kind := .normal, origin := some k, destination := some dest.toNat
          dir := if d.stopX k < d.stopX dest.toNat then .up else .down
          cls := c, departure := min 65535 (s.trip.departures + 1), profileCap := none, controlled := none
          markFound := false, refTravel := 0, overtravel := false } →
    (s.Secured → ∃ t, exec (.dispatch seq [dest, cls]) s = .next t ∧ s.Prepares d r 0x10#8 seq t) ∧
    (s.notices = [] → s.AuthorityHolds → s.NoViolation .a → s.NoViolation .b →
      (∀ w, (s.door.get w).cycle ≠ some .window) →
      (∃ w, (s.window w).state = .closing ∨ ((s.window w).state = .opened ∧ 0 < (s.window w).inflight)) →
      ∃ t, exec (.dispatch seq [dest, cls]) s = .next t ∧ t.trip.state = .preparing ∧ t.trip.record = some r ∧
        t.trip.departures = r.departure ∧ t.trip.step = 1 ∧ t.trip.tPrep = some d.timing.preparingMs ∧
        (∀ w, s.ClosesWindow t w ∧ (t.door.get w).state = (s.door.get w).state ∧
          (t.door.get w).authority = (s.door.get w).authority) ∧
        t.port = (((s.dispatched 0x10#8 seq r).closingReport .a .preparing r.departure).closingReport .b .preparing
          r.departure).port ∧
        t.brake = s.brake ∧ t.store = s.store ∧ t.pos = s.pos ∧ t.cfg = s.cfg)

/-- R70: an accepted RECOVER or REFERENCE RUN with both cars secured goes through PREPARING to step 3 in the same event, and
prepares its trip as a DISPATCH does (R46, R68, R69, R71, R72), with its reply and its TRIP reports (R88; that the report of
an abandonment shows no record is DEDUCED, assumption log 17). R68, R129: step 2 withdraws the authority of a RELEASED car,
starts a close cycle for an OPEN, UNSECURED or HELD car with CLOSE placed at once, lets a running cycle continue, and is
complete when both cars are LOCKED or UNKNOWN; a car that becomes HELD before that abandons the departure with DOORS, as it
does when T_close runs out (R128, R71); a door report after step 2 does not reopen it. The stop ahead of RECOVER is the
lowest-numbered one above xP + W_stop for UP, the highest-numbered one below xP − W_stop for DOWN; the origin is its
neighbour behind, if there is one. That the step is 0 after an abandonment is DESIGN CHOICE, assumption log 41, and that no
figures are passing after such a request is DESIGN CHOICE, log 44. -/
def Obligations.RecoverAndReferenceRunPrepare : Prop :=
  (∀ (d : LineDesc) (x : Int) (k : Nat),
    (∀ y, d.stops[k]? = some y → d.stopX k = y.x) ∧
    (stopAhead d .up x = some k ↔ k < d.stops.length ∧ x + d.line.stopWindow < (d.stopX k : Int) ∧
      ∀ j, j < k → (d.stopX j : Int) ≤ x + d.line.stopWindow) ∧
    (stopAhead d .down x = some k ↔ k < d.stops.length ∧ (d.stopX k : Int) < x - d.line.stopWindow ∧
      ∀ j, k < j → j < d.stops.length → x - d.line.stopWindow ≤ (d.stopX j : Int)) ∧
    stopBehind d .up 0 = none ∧ stopBehind d .up (k + 1) = some k ∧
    (k + 1 < d.stops.length → stopBehind d .down k = some (k + 1)) ∧
    (d.stops.length ≤ k + 1 → stopBehind d .down k = none)) ∧
  (∀ (s : State) (c : Car),
    ((s.door.get c).state = .released → (s.window c).state = .shut →
      ((s.stepTwoDoor c).door.get c).authority = none ∧ ((s.stepTwoDoor c).door.get c).state = .locked ∧
        (s.stepTwoDoor c).door.get (otherCar c) = s.door.get (otherCar c) ∧ (s.stepTwoDoor c).trip = s.trip) ∧
    (∀ d, ((s.door.get c).state = .opened ∨ (s.door.get c).state = .unsecured ∨ (s.door.get c).state = .held) →
      (s.window c).state = .shut → s.cfg.active = some d →
      ((s.stepTwoDoor c).door.get c).state = .closing ∧ ((s.stepTwoDoor c).door.get c).cycle = some .close ∧
        ((s.stepTwoDoor c).door.get c).retry = 0 ∧
        ((s.stepTwoDoor c).door.get c).tClose = some d.timing.doorCloseMs ∧
        ((s.stepTwoDoor c).door.get c).authority = (s.door.get c).authority ∧
        ((s.stepTwoDoor c).link.get c).slot = some .closeDoors ∧
        ((s.stepTwoDoor c).link.get c).tag = ((s.link.get c).tag + 1) % 8 ∧
        (s.stepTwoDoor c).door.get (otherCar c) = s.door.get (otherCar c) ∧ (s.stepTwoDoor c).trip = s.trip) ∧
    (((s.door.get c).state = .closing ∨ (s.door.get c).state = .locked ∨ (s.door.get c).state = .unknown) →
      s.stepTwoDoor c = s) ∧
    (s.trip.state = .preparing →
      ((∀ x, (s.door.get x).state = .locked ∨ (s.door.get x).state = .unknown ∨ (s.door.get x).state = .released) →
        s.stepTwo =
          ((({ s with trip := { s.trip with step := 2 } } : State).stepTwoDoor .a).stepTwoDoor .b).stepThree) ∧
      ((s.door.get c).state = .opened ∨ (s.door.get c).state = .unsecured ∨ (s.door.get c).state = .held ∨
          (s.door.get c).state = .closing → s.stepTwo.trip = { s.trip with step := 2 }) ∧
      ((s.trip.step = 1 ∨ s.trip.step = 2) → (s.door.get c).state = .held →
        (s.doorNotice c).trip.state = s.pos.view.stopWindowState ∧ (s.doorNotice c).trip.record = none ∧
          (s.doorNotice c).trip.tPrep = none ∧ (s.doorNotice c).trip.step = 0 ∧
          (s.doorNotice c).trip.lastAbandon = some .doors) ∧
      (s.trip.step = 2 → (∀ x, (s.door.get x).state = .locked ∨ (s.door.get x).state = .unknown) →
        s.doorNotice c = s.stepThree) ∧
      (s.trip.step = 3 → s.doorNotice c = s) ∧
      ((s.trip.step = 1 ∨ s.trip.step = 2) → s.notices = [] → s.wrongSideOpen c = false →
        (s.door.get c).state = .closing → (s.door.get c).tClose.isSome = true →
        ((s.door.get c).cycle = some .close ∨ (s.door.get c).cycle = some .reopen) →
        ∃ t, exec (.tCloseExpiry c) s = .next t ∧ t.trip.state = s.pos.view.stopWindowState ∧ t.trip.record = none ∧
          t.trip.tPrep = none ∧ t.trip.step = 0 ∧ t.trip.lastAbandon = some .doors ∧ (t.door.get c).state = .held ∧
          (t.door.get c).cycle = none ∧ (t.door.get c).tClose = none ∧ t.pos = s.pos ∧ t.cfg = s.cfg))) ∧
  ∀ (s : State) (seq code : Byte) (dir : Dir) (d : LineDesc) (n : Nat), s.TakesRequests → s.Secured →
    s.cfg.commit = .idle → s.cfg.active = some d → s.trip.state = .stranded → s.brake.latch = false →
    dirOfCode code = some dir → n = min 65535 (s.trip.departures + 1) →
    (∀ k, s.pos.view.pos = .confirmed → stopAhead d dir s.pos.view.xP = some k →
      ∃ t, exec (.recover seq [code]) s = .next t ∧
        s.Prepares d
          { kind := .recovery, origin := stopBehind d dir k, destination := some k, dir := dir, cls := .inspection
            departure := n, profileCap := none, controlled := none, markFound := false, refTravel := 0
            overtravel := false } 0x12#8 seq t) ∧
    (s.pos.view.pos ≠ .confirmed →
      ∃ t, exec (.referenceRun seq [code]) s = .next t ∧
        s.Prepares d
          { kind := .reference, origin := none, destination := none, dir := dir, cls := .inspection
            departure := n, profileCap := none, controlled := none, markFound := false, refTravel := 0
            overtravel := false } 0x13#8 seq t)

/-- R78: STOP in RUNNING or CREEPING puts a controlled stop in the record unless one is present; in PREPARING with both cars
secured the departure is abandoned with STOPPED (R71); in LIFTING with both cars secured the lift ends, SB is commanded
APPLIED and DE goes OFF (R73, R91); in a trip state without a departure under way it changes nothing. R88: the reply OK in
every case, and the TRIP report of the controlled stop, of the abandonment or of the ended lift (that these two show no
record is DEDUCED, assumption log 17). That the step is 0 after an abandonment is DESIGN CHOICE, assumption log 41. That no
figures are passing afterwards is DESIGN CHOICE, assumption log 44. -/
def Obligations.StopPutsAControlledStop : Prop :=
  ∀ (s : State) (seq : Byte), s.TakesRequests → s.notices = [] →
    (∀ r, (s.trip.state = .running ∨ s.trip.state = .creeping) → s.trip.record = some r → r.controlled = none →
      ∃ t, exec (.stop seq []) s = .next t ∧
        t.trip = { s.trip with record := some { r with controlled := some .stopped } } ∧ t.brake = s.brake ∧
        t.port = ((s.replied 0x11#8 seq (.plain .ok)).recordReport r s.trip.state s.trip.state .stopped).port ∧
        t.door = s.door ∧ t.board = s.board ∧ t.env = s.env ∧ t.load = s.figuresSettled.load ∧ t.pos = s.pos ∧
        t.cfg = s.cfg) ∧
    (∀ r why, (s.trip.state = .running ∨ s.trip.state = .creeping) → s.trip.record = some r →
      r.controlled = some why → exec (.stop seq []) s = .next (s.replied 0x11#8 seq (.plain .ok))) ∧
    (s.Secured → s.trip.state = .preparing →
      ∃ t, exec (.stop seq []) s = .next t ∧ t.trip.state = s.pos.view.stopWindowState ∧ t.trip.record = none ∧
        t.port = ((s.replied 0x11#8 seq (.plain .ok)).endedReport .preparing s.pos.view.stopWindowState .stopped).port ∧
        t.trip.tPrep = none ∧ t.trip.step = 0 ∧ t.trip.holdWait = false ∧ t.trip.lastAbandon = some .stopped ∧
        t.trip.vRef = 0 ∧ t.brake = s.brake ∧ t.board = s.board ∧ t.store = s.store ∧ t.pos = s.pos ∧ t.cfg = s.cfg) ∧
    (s.Secured → s.trip.state = .lifting →
      ∃ t, exec (.stop seq []) s = .next t ∧ t.trip.state = s.pos.view.stopWindowState ∧ t.trip.record = none ∧
        t.port = ((s.replied 0x11#8 seq (.plain .ok)).endedReport .lifting s.pos.view.stopWindowState .stopped).port ∧
        t.trip.tLift = none ∧ t.brake = { s.brake with sb := s.brake.sb.apply, de := false } ∧
        t.brake.sb.command = .applied ∧ t.load.snapshot = none ∧ t.env.list = [] ∧ t.env.cap = none ∧
        t.board = s.board ∧ t.store = s.store ∧ t.pos = s.pos ∧ t.cfg = s.cfg) ∧
    ((s.trip.state = .settling ∨ s.trip.state = .intervened ∨ s.trip.state = .stranded ∨
        s.trip.state = .unconfigured ∨ ∃ k, s.trip.state = .parked k) →
      exec (.stop seq []) s = .next (s.replied 0x11#8 seq (.plain .ok)))

/-- R87, R57: SET CLASS and its rows in their order: STATE while UNCONFIGURED, RANGE for a class code that is none of the
three, STATE in a trip state other than PREPARING, LIFTING, RUNNING and CREEPING, STATE for a class above the record's, "no
change" for the same class. It lowers the class of the record; from LIFTING on the profile cap falls, and a cap below the one
in force waits as the pending cap. That no figures are passing afterwards is DESIGN CHOICE, assumption log 44. -/
def Obligations.SetClassLowersTheClass : Prop :=
  (∀ (s : State) (seq code : Byte) (b : ReplyBody), s.TakesRequests →
    (if s.trip.state = .unconfigured then some (.plain .state)
      else if 2 < code.toNat then some (.plain .range)
      else if ¬(s.trip.state = .preparing ∨ s.trip.state = .lifting ∨ s.trip.state = .running ∨
          s.trip.state = .creeping) then some (.plain .state)
      else none) = some b →
    exec (.setClass seq [code]) s = .next (s.replied 0x14#8 seq b)) ∧
  ∀ (s : State) (seq code : Byte) (c : SpeedClass) (r : TripRecord) (d : LineDesc), s.TakesRequests →
    classOfCode code = some c → s.trip.record = some r → s.cfg.active = some d → s.trip.state.classChanges = true →
    (classRank c < classRank r.cls → exec (.setClass seq [code]) s = .next (s.replied 0x14#8 seq (.plain .state))) ∧
    (c = r.cls → exec (.setClass seq [code]) s = .next (s.replied 0x14#8 seq (.done true))) ∧
    (classRank r.cls < classRank c → s.trip.state = .preparing →
      exec (.setClass seq [code]) s =
        .next { s.replied 0x14#8 seq (.done false) with
          trip := { s.trip with record := some { r with cls := c } } }) ∧
    (classRank r.cls < classRank c → s.trip.state ≠ .preparing →
      exec (.setClass seq [code]) s =
        .next { s.replied 0x14#8 seq (.done false) with
          trip := { s.trip with
            record := some { r with cls := c, profileCap := r.profileCap.map fun p => min p (d.classCap c) } }
          env := { s.env with
            pendingCap := if d.classCap c < s.env.cap.getD 0 then some (d.classCap c) else none } })

/-- R71, R69: T_prep expires while a departure waits on HOLD with both cars secured: it is abandoned with TIMEOUT, and the
trip state follows the stop-window test. R73, R91, R47, R60, R102: T_lift expires with both cars secured: SB is commanded
APPLIED and DE goes OFF, the record, the snapshot and the restriction list are discarded, and LIFT_FAIL is recorded. R88,
R108: the TRIP report of each, and after that of the lift the FAULT report of LIFT_FAIL with the count of its entry, or
without one where it is not stored (the order of the two is DESIGN CHOICE, assumption log 16; the departure count in it is
DESIGN CHOICE, log 48; that the TRIP reports show no record is DEDUCED, log 17). That an expiry of a timer that does not run
does nothing is DESIGN CHOICE, assumption log 15, and that the step is 0 after an abandonment is DESIGN CHOICE, log 41. -/
def Obligations.TripTimersExpire : Prop :=
  ∀ s : State,
    (s.Secured → s.trip.state = .preparing → s.trip.tPrep.isSome = true →
      ∃ t, exec .tPrepExpiry s = .next t ∧ t.trip.state = s.pos.view.stopWindowState ∧ t.trip.record = none ∧
        t.port = (s.endedReport .preparing s.pos.view.stopWindowState .timeout).port ∧
        t.trip.tPrep = none ∧ t.trip.step = 0 ∧ t.trip.holdWait = false ∧ t.trip.lastAbandon = some .timeout ∧
        t.trip.vRef = 0 ∧ t.brake = s.brake ∧ t.board = s.board ∧ t.store = s.store ∧ t.pos = s.pos ∧ t.cfg = s.cfg) ∧
    (s.trip.tPrep = none → exec .tPrepExpiry s = .next s) ∧
    (s.Secured → s.trip.state = .lifting → s.trip.tLift.isSome = true →
      ∃ t, exec .tLiftExpiry s = .next t ∧ t.trip.state = s.pos.view.stopWindowState ∧ t.trip.record = none ∧
        t.trip.tLift = none ∧ t.brake.sb.command = .applied ∧ t.brake.de = false ∧ t.brake.state = s.brake.state ∧
        t.brake.eb = s.brake.eb ∧ t.load.snapshot = none ∧ t.env.list = [] ∧ t.env.cap = none ∧
        (hasCapture .liftFail t.brake.captures = true ∨ t.brake.overflow = true) ∧
        t.port = ((s.endedReport .lifting s.pos.view.stopWindowState .liftFail).report (.fault .liftFail .recordOnly
          s.trip.departures s.pos.view.xP ((t.brake.captures.find? fun e => e.cause == .liftFail).map (·.count))
          s.brake.state)).port ∧ t.board = s.board ∧
        t.store = s.store ∧ t.pos = s.pos ∧ t.cfg = s.cfg) ∧
    (s.trip.tLift = none → exec .tLiftExpiry s = .next s)

/-- R80, R72, R91, R92: a valid drive status replaces the last one; RUNNING in the drive phase of a lift has SB lifted where
the requests are open, and starts the brake phase; a request that does not meet its conditions is dropped and the outputs
stay, with the brake phase started all the same. R92, R93: a request is open with the latch clear, EB commanded and reading
LIFTED, both door states LOCKED and both car links LIVE; SB is lifted with DE ON and SB not stuck. A status FAULT that is new
raises DRIVE_FAULT, in every trip state but UNCONFIGURED: it is in the capture list or sets the overflow flag, and the
supervisor is then in SERVICE or EMERGENCY with SB APPLIED and DE OFF (R96, R102). At every view, before the new reference is
sent, the missed count becomes 0 where a valid status has come since the last reference, and else rises to at most 5; where
it reaches 5 with DE ON, DRIVE_LOST is raised; the drive-line state is LOST while it is 5. That the trip stays in LIFTING
where the SB contact reads LIFTED already is DEDUCED, assumption log 26, and that a reference carries the DE of the moment at
which it is formed is DESIGN CHOICE, log 47. That no figures are passing afterwards is DESIGN CHOICE, assumption log 44. -/
def Obligations.DriveStatusIsHeard : Prop :=
  (∀ (u : State) (n : Nat) (v : Int), n = (if u.trip.driveHeard = true then 0 else min 5 (u.trip.driveMissed + 1)) →
    v = (match u.trip.record.map fun r => r.dir with
      | none => 0
      | some .up => (u.trip.vRef : Int)
      | some .down => -(u.trip.vRef : Int)) →
    (u.trip.driveLostNow = true ↔ u.trip.driveMissed = 5) ∧
    u.driveView = { u with
      trip := { u.trip with driveMissed := n, driveHeard := false }
      notices := if n = 5 ∧ u.trip.driveMissed ≠ 5 ∧ u.brake.de = true then u.notices ++ [.cause .driveLost] else u.notices
      wires := u.wires.set .driveLine ((u.wires.get .driveLine).push (.driveReference v u.brake.de)) } ∧
    (u.requestsOpen = true ↔ u.brake.state ≠ .service ∧ u.brake.state ≠ .emergency ∧ u.brake.eb.command = .lifted ∧
      u.brake.eb.feedback = .lifted ∧ u.door.a.state = .locked ∧ u.door.b.state = .locked ∧ u.link.a.live = true ∧
      u.link.b.live = true) ∧
    (u.requestsOpen = true → u.driveRequest = { u with brake := { u.brake with de := true } }) ∧
    (u.requestsOpen = false → u.driveRequest = u ∧ u.liftRequest = u) ∧
    (u.requestsOpen = true → u.brake.de = true → u.brake.sb.stuck = false →
      u.liftRequest = { u with brake := { u.brake with sb := u.brake.sb.lift } }) ∧
    ((u.brake.de = false ∨ u.brake.sb.stuck = true) → u.liftRequest = u) ∧
    (∀ d, u.cfg.active = some d → u.trip.state ≠ .unconfigured →
      ∃ w : State, u.tripView = w.driveView ∧ w.trip.driveHeard = u.trip.driveHeard ∧ w.trip.driveMissed = u.trip.driveMissed)) ∧
  ∀ (s : State) (r : DriveStatus) (h : TripCtl), s.notices = [] →
    h = { s.trip with
      driveLast := lastOf r.status, driveFaultCode := r.faultCode.toNat, driveTorque := r.torque, driveHeard := true } →
    ((r.status = .ready ∨ (r.status = .running ∧ ¬(s.trip.state = .lifting ∧ s.trip.liftPhase = .drive)) ∨
        (r.status = .fault ∧ (s.trip.driveLast = .fault ∨ s.trip.state = .unconfigured))) →
      exec (.driveStatus r) s = .next { s.recordTaken .driveLine with trip := h }) ∧
    (r.status = .fault → s.trip.driveLast ≠ .fault → s.trip.state ≠ .unconfigured → s.LatchLaw →
      ∃ t, exec (.driveStatus r) s = .next t ∧ t.trip.driveLast = .fault ∧ t.trip.driveFaultCode = r.faultCode.toNat ∧
        t.trip.driveTorque = r.torque ∧ t.trip.driveHeard = true ∧ t.trip.driveMissed = s.trip.driveMissed ∧
        (hasCapture .driveFault t.brake.captures = true ∨ t.brake.overflow = true) ∧
        (t.brake.state = .service ∨ t.brake.state = .emergency) ∧ t.brake.sb.command = .applied ∧ t.brake.de = false ∧
        t.pos = s.pos ∧ t.cfg = s.cfg) ∧
    (∀ d, r.status = .running → s.trip.state = .lifting → s.trip.liftPhase = .drive → s.Secured →
      s.cfg.active = some d → s.requestsOpen = true → s.brake.de = true → s.brake.sb.stuck = false →
      exec (.driveStatus r) s =
        .next { s.recordTaken .driveLine with
          trip := { h with tLift := some d.timing.brakeLiftMs, liftPhase := .brake }
          brake := { s.brake with sb := s.brake.sb.lift } }) ∧
    (∀ d, r.status = .running → s.trip.state = .lifting → s.trip.liftPhase = .drive → s.Secured →
      s.cfg.active = some d → (s.requestsOpen = false ∨ s.brake.de = false ∨ s.brake.sb.stuck = true) →
      exec (.driveStatus r) s =
        .next { s.recordTaken .driveLine with
          trip := { h with tLift := some d.timing.brakeLiftMs, liftPhase := .brake } })

/-! ### The brake supervisor -/

/-- R105, R104, R106: FAULTS READ returns the list and sets the intervention counter to 0; FAULTS CLEAR empties the list and
clears the overflow flag. Neither changes anything else. That no figures are passing afterwards is DESIGN CHOICE, assumption
log 44. -/
def Obligations.FaultsReadAndClear : Prop :=
  ∀ (s : State) (seq : Byte), s.TakesRequests →
    exec (.faultsRead seq []) s =
      .next { s.replied 0x19#8 seq
          (.faults s.brake.captures s.brake.overflow s.brake.interventions s.brake.state s.brake.latch) with
        brake := { s.brake with interventions := 0 } } ∧
    exec (.faultsClear seq []) s =
      .next { s.replied 0x1A#8 seq (.plain .ok) with brake := { s.brake with captures := [], overflow := false } }

/-- R100, R101, R95: an accepted BRAKE RESET leaves NORMAL, clears the latch, stops the escalation timer, sets the excursion
memory to NONE, commands EB LIFTED and starts the EB lift, which ends at once where the EB feedback reads LIFTED. R108: its
reply "done", the INTERVENTION report RESET, and EB_LIFTED after it where the lift ends at once (their order is DESIGN CHOICE,
assumption log 58; their departure number DESIGN CHOICE, log 48). -/
def Obligations.BrakeResetClearsTheLatch : Prop :=
  ∀ (s : State) (seq : Byte) (d : LineDesc), s.TakesRequests → s.cfg.active = some d → s.brake.ebLift = none →
    (s.trip.state.isParked = true ∨ s.trip.state = .stranded) → s.pos.view.settled = true →
    s.trip.driveLast ≠ .fault → s.trip.driveLostNow = false → s.link.a.live = true → s.link.b.live = true →
    s.brake.sb.stuck = false → s.brake.eb.stuck = false → (s.brake.latch = true ∨ s.brake.eb.command = .applied) →
    ∃ t, exec (.brakeReset seq []) s = .next t ∧
      t.brake = { s.brake with
        state := .normal, escalation := none, lastLevel := .none, lastFlag := false, eb := s.brake.eb.lift
        ebLift := if s.brake.eb.feedback = .lifted then none else some d.timing.brakeLiftMs } ∧
      (∀ u, u = (s.replied 0x18#8 seq (.done false)).report (.intervention .reset none .normal s.departureNumber
          s.pos.view.xP s.pos.view.vm s.env.result.vPerm s.brake.interventions) →
        (s.brake.eb.feedback = .applied → t.port = u.port) ∧
        (s.brake.eb.feedback = .lifted → t.port = (u.report (.intervention .ebLifted none .normal s.departureNumber
          s.pos.view.xP s.pos.view.vm s.env.result.vPerm s.brake.interventions)).port)) ∧
      t.brake.latch = false ∧ t.brake.eb.command = .lifted ∧ t.trip = s.trip ∧ t.door = s.door ∧ t.board = s.board ∧
      t.store = s.store ∧ t.pos = s.pos ∧ t.cfg = s.cfg

/-- R90, R101, R73: a change of a feedback contact. The EB contact reading LIFTED ends an EB lift; the SB contact reading
LIFTED in the brake phase of a lift, with both cars secured, starts RUNNING, with the no-progress window, the rollback
accumulation, the forward run count and the reference travel from 0. R108, R88: the INTERVENTION report EB_LIFTED (its
departure number is DESIGN CHOICE, assumption log 48) and the TRIP report LIFTED. What a command and a reading do to one
brake: the apply timer of 500 ms starts where the command becomes APPLIED with the contact reading LIFTED, or the contact
becomes LIFTED under APPLIED; it stops where the contact reads APPLIED or the command becomes LIFTED; a reading of APPLIED
ends the stuck condition. When a lift counts as completed, for the disagreement flag, is DESIGN CHOICE, assumption log 45.
That a contact which reads as before changes nothing is DESIGN CHOICE, assumption log 15. That no figures are passing
afterwards is DESIGN CHOICE, assumption log 44. -/
def Obligations.FeedbackIsRead : Prop :=
  (∀ b : BrakeLine,
    (b.command = .applied → b.apply = b) ∧
    (b.command = .lifted → b.apply = { b with
      command := .applied, applyTimer := if b.feedback = .lifted then some 500 else none, liftDone := false }) ∧
    (b.command = .lifted → b.lift = b) ∧
    (b.command = .applied → b.lift = { b with
      command := .lifted, applyTimer := none, liftDone := decide (b.feedback = .lifted) }) ∧
    b.read .applied = { b with feedback := .applied, applyTimer := none, stuck := false } ∧
    (b.command = .applied → b.read .lifted = { b with feedback := .lifted, applyTimer := some 500 }) ∧
    (b.command = .lifted → b.read .lifted = { b with feedback := .lifted, liftDone := true })) ∧
  ∀ (s : State) (x : Contact),
    (s.brake.sb.feedback = x → exec (.brakeFeedback .sb x) s = .next s) ∧
    (s.brake.eb.feedback = x → exec (.brakeFeedback .eb x) s = .next s) ∧
    (s.brake.eb.feedback ≠ x → (s.brake.ebLift = none ∨ x = .applied) →
      exec (.brakeFeedback .eb x) s = .next { s.figuresSettled with brake := { s.brake with eb := s.brake.eb.read x } }) ∧
    (s.brake.eb.feedback ≠ x → s.brake.ebLift.isSome = true → x = .lifted →
      ∃ t, exec (.brakeFeedback .eb x) s = .next t ∧
        t = { s.figuresSettled with
          brake := { s.brake with eb := s.brake.eb.read .lifted, ebLift := none }
          port := (s.report (.intervention .ebLifted none s.brake.state s.departureNumber s.pos.view.xP s.pos.view.vm
            s.env.result.vPerm s.brake.interventions)).port }) ∧
    (s.brake.sb.feedback ≠ x → s.Secured → ¬(x = .lifted ∧ s.trip.state = .lifting ∧ s.trip.liftPhase = .brake) →
      exec (.brakeFeedback .sb x) s = .next { s.figuresSettled with brake := { s.brake with sb := s.brake.sb.read x } }) ∧
    (s.brake.sb.feedback ≠ x → s.Secured → x = .lifted → s.trip.state = .lifting → s.trip.liftPhase = .brake →
      ∃ t, exec (.brakeFeedback .sb x) s = .next t ∧ t.trip.state = .running ∧ t.trip.tLift = none ∧
        t.trip.record = s.trip.record.map (fun r => { r with refTravel := 0 }) ∧ t.trip.progress = none ∧
        (∀ r, s.trip.record = some r → t.port = (s.recordReport r .lifting .running .lifted).port) ∧
        t.brake = { s.brake with sb := s.brake.sb.read .lifted } ∧ t.board = s.board ∧ t.store = s.store ∧
        t.pos = { s.pos with rollback := 0, forwardRun := 0 } ∧ t.load = s.figuresSettled.load ∧ t.cfg = s.cfg)

/-- R90, R96, R89, R101: an apply timer that expires, and an EB lift that runs out, end in EMERGENCY with both brakes
commanded APPLIED and DE OFF; the brake whose timer expired is stuck. -/
def Obligations.StuckBrakesEndInEmergency : Prop :=
  ∀ s : State, s.LatchLaw →
    (∀ i, (s.brake.line i).applyTimer.isSome = true →
      ∃ t, exec (.applyTimerExpiry i) s = .next t ∧ t.brake.state = .emergency ∧ t.brake.sb.command = .applied ∧
        t.brake.eb.command = .applied ∧ t.brake.de = false ∧ (t.brake.line i).stuck = true) ∧
    (s.brake.ebLift.isSome = true →
      ∃ t, exec .ebLiftTimeout s = .next t ∧ t.brake.state = .emergency ∧ t.brake.sb.command = .applied ∧
        t.brake.eb.command = .applied ∧ t.brake.de = false)

/-- R99, R48: the escalation check. The current zone contains the leading position of the trip direction, where there is one,
and xP otherwise; its a_eff is that of the snapshot, and without one the lower of the live UP and DOWN values. That between
an activation and the next sample these are the zones of the active configuration is DEDUCED, assumption log 56. At
standstill, or with the measured deceleration not below half of a_eff of the current zone, it passes; otherwise the
supervisor escalates to EMERGENCY. In each of the three the timer has stopped, and the result of the check stands, with the
required deceleration beside it, and where it was measured with a_meas. That a check passed at standstill leaves the required
deceleration of the current zone beside its result is DESIGN CHOICE, assumption log 36. That no figures are passing
afterwards is DESIGN CHOICE, assumption log 44. -/
def Obligations.EscalationCheckDecides : Prop :=
  (∀ (s : State) (d : LineDesc), d.zones ≠ [] →
    (∀ r p, s.trip.record = some r → s.pos.view.leading r.dir = some p → d.ZoneOf p (s.currentZone d)) ∧
    ((∀ r, s.trip.record = some r → s.pos.view.leading r.dir = none) → d.ZoneOf s.pos.view.xP (s.currentZone d))) ∧
  (∀ (e : Estimator) (z a b : Nat),
    (∀ sn, e.snapshot = some sn → sn.aEff[z]? = some a → e.aEffAt z = a) ∧
    (∀ l, e.snapshot = none → e.live = some l → l.up.aEff[z]? = some a → l.down.aEff[z]? = some b →
      e.aEffAt z = min a b)) ∧
  ∀ (s : State) (d : LineDesc) (req : Nat) (a : Int), s.cfg.active = some d → s.brake.escalation.isSome = true →
    s.notices = [] → req = s.load.aEffAt (s.currentZone d) / 2 →
    a = ((s.pos.vmHistory.headD 0 : Nat) - (s.pos.view.vm : Int)) * 2 →
    (s.pos.view.standstill = true →
      exec .escalationTimerExpiry s =
        .next { s.figuresSettled with
          brake := { s.brake with escalation := none, check := .passedStill, requiredDecel := req } }) ∧
    (s.pos.view.standstill = false → (req : Int) ≤ a →
      exec .escalationTimerExpiry s =
        .next { s.figuresSettled with
          brake := { s.brake with escalation := none, check := .passed a, requiredDecel := req } }) ∧
    (s.pos.view.standstill = false → a < (req : Int) → s.LatchLaw →
      ∃ t, exec .escalationTimerExpiry s = .next t ∧ t.brake.state = .emergency ∧ t.brake.sb.command = .applied ∧
        t.brake.eb.command = .applied ∧ t.brake.de = false ∧ t.brake.check = .failed a ∧ t.brake.requiredDecel = req ∧
        t.brake.escalation = none)

/-- R96: what a taken cause does to the supervisor, by its severity and the state it finds; 6.4: the severity of every cause;
R102: what it leaves in the fault capture list. R99, R101: an entry to SERVICE starts the escalation timer of 1,000 ms and
leaves an EB lift in progress; an intervention or an escalation to EMERGENCY leaves no escalation timer running and ends an
EB lift; a cause that does not change the state, as a further service cause, touches neither, nor anything else of the
supervisor but its capture list. R84, R98: the notice of an intervention: an entry to SERVICE or EMERGENCY, by an escalation
too, abandons a departure in PREPARING with INTERVENTION, and puts LIFTING, RUNNING, CREEPING and SETTLING to INTERVENED,
with v_ref 0, T_lift stopped, the controlled stop removed and the no-progress window closed, snapshot and restriction list
kept, and v_perm 0 at once from RUNNING and CREEPING (R58); the other trip states stay. That the step is 0 after an
abandonment is DESIGN CHOICE, assumption log 41. R95: what the supervisor does with an envelope result: the moves between
NORMAL and WARNING, the overspeed cause at the first result of an excursion, and LINE_MAX after it. That a move to WARNING
comes before LINE_MAX is DESIGN CHOICE, assumption log 45. R108 does not say what the departure number of a WARNING report is
while no trip record exists: that it is the departure count is the model's choice (DESIGN CHOICE, assumption log 48). R108,
R88: a cause that does not change the state gives one FAULT report, with the count of its entry or none where it is not
stored; an entry and an escalation give one INTERVENTION report, after the TRIP report of the notice where no car holds
authority (their order is DESIGN CHOICE, log 16; the v_perm of the latest result DESIGN CHOICE, log 45; the departure number
DESIGN CHOICE, log 48; a TRIP report of an abandonment without a record DEDUCED, log 17). -/
def Obligations.CauseMovesTheSupervisor : Prop :=
  (∀ (s u w : State) (r : EnvResult) (n : Nat), r = s.env.result →
    n = (s.trip.record.map (·.departure)).getD s.trip.departures →
    u = { s with brake := { s.brake with lastLevel := r.level, lastFlag := r.lineMaxFlag } } →
    (r.level = .warning → s.brake.state = .normal →
      w = ({ u with brake := { u.brake with state := .warning } } : State).report
        (.warning n r.view.xP r.vm r.vPerm r.warning)) →
    (r.level = .none → s.brake.state = .warning → w = { u with brake := { u.brake with state := .normal } }) →
    ((r.level = .warning ∧ s.brake.state ≠ .normal) ∨ (r.level = .none ∧ s.brake.state ≠ .warning) ∨
        (r.level = .service ∧ (s.brake.lastLevel = .service ∨ s.brake.lastLevel = .emergency)) ∨
        (r.level = .emergency ∧ s.brake.lastLevel = .emergency) → w = u) →
    (r.level = .service → (s.brake.lastLevel = .none ∨ s.brake.lastLevel = .warning) →
      w = u.takeCause .overspeedService) →
    (r.level = .emergency → s.brake.lastLevel ≠ .emergency → w = u.takeCause .overspeedEmergency) →
    s.brakeResult = if r.lineMaxFlag = true ∧ s.brake.lastFlag = false then w.takeCause .lineMax else w) ∧
  ∀ (s : State) (c : Cause) (n : Nat), s.LatchLaw →
    n = (s.trip.record.map (·.departure)).getD s.trip.departures →
    (c.severity = .emergency ↔ c ∈ [Cause.overspeedEmergency, .lineMax, .rollback, .driftUnderBrake, .divergence,
      .doorUnlockedRun, .overtravel, .insufficientDecel, .sbStuck, .ebStuck, .startUp]) ∧
    (c.severity = .service ↔ c ∈ [Cause.overspeedService, .noProgress, .driveLost, .driveFault, .carLinkLostRun,
      .doorWithoutAuthority, .wrongSide, .referenceNotFound]) ∧
    (c.severity = .recordOnly ↔ c ∈ [Cause.liftFail, .markMismatch, .unexpectedMark]) ∧
    ((∃ e ∈ s.brake.captures, e.cause = c) →
      (s.takeCause c).brake.captures = s.brake.captures.map (fun e =>
        if e.cause = c then { e with count := min 255 (e.count + 1), lastDeparture := n } else e) ∧
      (s.takeCause c).brake.overflow = s.brake.overflow) ∧
    ((∀ e ∈ s.brake.captures, e.cause ≠ c) → s.brake.captures.length < 4 →
      (s.takeCause c).brake.captures = s.brake.captures ++
        [⟨c, c.severity, n, n, 1, if s.pos.published then some s.pos.view.xP else none⟩] ∧
      (s.takeCause c).brake.overflow = s.brake.overflow) ∧
    ((∀ e ∈ s.brake.captures, e.cause ≠ c) → 4 ≤ s.brake.captures.length →
      (s.takeCause c).brake.captures = s.brake.captures ∧ (s.takeCause c).brake.overflow = true) ∧
    (c.severity = .recordOnly → (s.takeCause c).brake.state = s.brake.state ∧ (s.takeCause c).brake.sb = s.brake.sb ∧
      (s.takeCause c).brake.eb = s.brake.eb ∧ (s.takeCause c).brake.de = s.brake.de ∧
      (s.takeCause c).brake.interventions = s.brake.interventions ∧ (s.takeCause c).trip = s.trip) ∧
    (c.severity = .service → s.brake.latch = true → (s.takeCause c).brake.state = s.brake.state ∧
      (s.takeCause c).brake.interventions = s.brake.interventions ∧ (s.takeCause c).trip = s.trip) ∧
    (c.severity = .service → s.brake.latch = false → (s.takeCause c).brake.state = .service ∧
      (s.takeCause c).brake.sb.command = .applied ∧ (s.takeCause c).brake.de = false ∧
      (s.takeCause c).brake.eb.command = s.brake.eb.command ∧ (s.takeCause c).brake.escalation = some 1000 ∧
      (s.takeCause c).brake.ebLift = s.brake.ebLift ∧
      (s.takeCause c).brake.interventions = min 255 (s.brake.interventions + 1)) ∧
    (c.severity = .emergency → s.brake.state ≠ .emergency → (s.takeCause c).brake.escalation = none ∧
      (s.takeCause c).brake.ebLift = none) ∧
    (c.severity = .emergency → (s.takeCause c).brake.state = .emergency ∧
      (s.takeCause c).brake.sb.command = .applied ∧ (s.takeCause c).brake.eb.command = .applied ∧
      (s.takeCause c).brake.de = false ∧
      (s.takeCause c).brake.interventions =
        if s.brake.state = .emergency then s.brake.interventions else min 255 (s.brake.interventions + 1)) ∧
    (((c.severity = .service ∧ s.brake.latch = false) ∨ (c.severity = .emergency ∧ s.brake.state ≠ .emergency)) →
      (s.takeCause c).load.snapshot = s.load.snapshot ∧
      ((s.trip.state = .lifting ∨ s.trip.state = .running ∨ s.trip.state = .creeping ∨ s.trip.state = .settling) →
        (s.takeCause c).trip = { s.trip with
          state := .intervened, vRef := 0, tLift := none, progress := none
          record := s.trip.record.map fun q => { q with controlled := none } } ∧
        (s.takeCause c).env =
          (if s.trip.state = .running ∨ s.trip.state = .creeping then { s.env with vPerm := 0 } else s.env)) ∧
      (s.trip.state = .preparing →
        (s.takeCause c).trip = { s.trip with
          state := s.pos.view.stopWindowState, record := none, step := 0, holdWait := false, tPrep := none, tLift := none
          lastAbandon := some .intervention, vRef := 0, progress := none } ∧
        (s.takeCause c).env = s.env) ∧
      ((s.trip.state = .intervened ∨ s.trip.state = .stranded ∨ s.trip.state = .unconfigured ∨
          ∃ k, s.trip.state = .parked k) →
        (s.takeCause c).trip = s.trip ∧ (s.takeCause c).env = s.env)) ∧
    ((c.severity = .recordOnly ∨ (c.severity = .service ∧ s.brake.latch = true) ∨
        (c.severity = .emergency ∧ s.brake.state = .emergency)) →
      (s.takeCause c).brake = { s.brake with
        captures := (s.takeCause c).brake.captures, overflow := (s.takeCause c).brake.overflow } ∧
      (∀ k, k = (((s.takeCause c).brake.captures.find? fun e => e.cause == c).map (·.count)) →
        s.takeCause c = { s with
          brake := (s.takeCause c).brake
          port := (s.report (.fault c c.severity n s.pos.view.xP k s.brake.state)).port })) ∧
    (∀ (ev : InterventionEvent) (st : SupState) (m : Nat) (x : Report),
      ((c.severity = .service ∧ s.brake.latch = false ∧ ev = .service ∧ st = .service) ∨
        (c.severity = .emergency ∧ s.brake.latch = false ∧ ev = .emergency ∧ st = .emergency) ∨
        (c.severity = .emergency ∧ s.brake.state = .service ∧ ev = .escalated ∧ st = .emergency)) →
      m = (if s.trip.state = .preparing then s.trip.departures else n) →
      x = .intervention ev (some c) st m s.pos.view.xP s.pos.view.vm s.env.result.vPerm
        (min 255 (s.brake.interventions + 1)) →
      (∃ w : State, s.takeCause c = w.report x) ∧
      (s.door.a.authority = none → s.door.b.authority = none →
        (∀ r, (s.trip.state = .lifting ∨ s.trip.state = .running ∨ s.trip.state = .creeping ∨ s.trip.state = .settling) →
          s.trip.record = some r →
          (s.takeCause c).port = ((s.recordReport r s.trip.state .intervened .intervention).report x).port) ∧
        (s.trip.state = .preparing →
          (s.takeCause c).port = ((s.endedReport .preparing s.pos.view.stopWindowState .intervention).report x).port) ∧
        ((s.trip.state = .intervened ∨ s.trip.state = .stranded ∨ s.trip.state = .unconfigured ∨
            ∃ k, s.trip.state = .parked k) →
          (s.takeCause c).port = (s.report x).port)))

/-! ### The position monitor, the load estimator and the envelope calculator -/

/-- R19, R51, R61: a sample of a configured part publishes one view, and the envelope result of that view, which the
calculator takes before or after the causes of the same sample have been taken (R51; a free choice, DESIGN CHOICE, assumption
log 2); without an active configuration, or while LOADING, no sample is taken. R77, R85: a settled view ends SETTLING and
INTERVENED by the stop-window test. R65: PARKED at a stop is held while the view is CONFIRMED at that stop, and else becomes
STRANDED. R86: the reference travel of a REFERENCE trip grows at a view in RUNNING and SETTLING; above R_ref in RUNNING
without a mark found REFERENCE_NOT_FOUND is raised; a mark found before RUNNING puts its controlled stop at a view in
RUNNING, which with v_ref 0 enters SETTLING; that a view which enters SETTLING leaves the trip there also where that view is
settled, with SETTLE as its last TRIP report, is DEDUCED, assumption log 19. R83: at a view in RUNNING, CREEPING, SETTLING or
INTERVENED overtravel is raised where the distance of the DESTINATION entry is below −W_ot, and the flag of the record is
set; it is not raised with the flag set already, at −W_ot and above, or without a DESTINATION entry. R82: the no-progress
window of a view after which the trip is RUNNING or CREEPING, and NO_PROGRESS raised below 50 mm and not at 50 mm; a trip
that leaves both closes its window. That the view that opens it leaves its view count at 0 is DEDUCED, assumption log 18.
That a sample which the timer cannot give changes nothing is DESIGN CHOICE, log 15. R56, R57, R58, R61: the zone limit term,
the class cap, v_perm, the thresholds, the level and the line-maximum flag of the result. R35: the one POSITION report of a
sample that changes the position state or misses a mark. R88: the TRIP reports of a view: CREEP, SETTLE and MARK_FOUND, the
end of SETTLING with ARRIVED or the reason of the controlled stop, the end of INTERVENED, and POSITION where PARKED becomes
STRANDED (that the reports of an ended trip show no record is DEDUCED, assumption log 17). That the calculator takes a view
before the door tests and the trip controller's own work on it (R51) is DESIGN CHOICE, assumption log 52. That no figures are
passing afterwards is DESIGN CHOICE, assumption log 44. -/
def Obligations.SamplePublishesAView : Prop :=
  (∀ (d : LineDesc) (est : Estimator) (st : TripState) (dir : Option Dir) (v : View) (e f : Envelope) (r : EnvResult),
    f = e.view d est st dir v → r = f.result →
    r.view = v ∧ r.vm = v.vm ∧ r.restrictions = f.list ∧ r.cap = f.cap ∧ f.vPerm = r.vPerm ∧
    (e.pendingCap = none → f.cap = e.cap ∧ f.pendingCap = none) ∧
    (∀ c, e.pendingCap = some c →
      (v.vm ≤ c → f.cap = some c ∧ f.pendingCap = none) ∧ (c < v.vm → f.cap = e.cap ∧ f.pendingCap = some c)) ∧
    (∀ z y, v.pos = .confirmed → d.ZoneOf v.xP z → d.zones[z]? = some y → r.zoneTerm = y.speedLimit) ∧
    (∀ z y a b, v.pos = .disputed → d.ZoneOf v.xP z → d.zones[z]? = some y → d.ZoneOf v.xQ a → d.zones[a]? = some b →
      r.zoneTerm = min y.speedLimit b.speedLimit) ∧
    (v.pos = .unreferenced → d.zones ≠ [] →
      (∃ y ∈ d.zones, r.zoneTerm = y.speedLimit) ∧ ∀ y ∈ d.zones, r.zoneTerm ≤ y.speedLimit) ∧
    (¬(st = .running ∨ st = .creeping ∨ st = .intervened) → r.vPerm = 0) ∧
    ((st = .running ∨ st = .creeping ∨ st = .intervened) →
      r.vPerm ≤ 15000 ∧ r.vPerm ≤ r.zoneTerm ∧ (∀ c, r.cap = some c → r.vPerm ≤ c) ∧
        (∀ x ∈ r.restrictions, r.vPerm ≤ x.vr) ∧
        (r.vPerm = 15000 ∨ r.vPerm = r.zoneTerm ∨ r.cap = some r.vPerm ∨ ∃ x ∈ r.restrictions, r.vPerm = x.vr)) ∧
    r.warning = r.vPerm ∧
    r.service = r.vPerm + max d.margin.serviceAbs (r.vPerm * d.margin.servicePct / 100) ∧
    r.emergency = r.vPerm + max d.margin.emergencyAbs (r.vPerm * d.margin.emergencyPct / 100) ∧
    r.lineMax = d.line.lineMax + d.margin.emergencyAbs ∧
    (r.emergency < v.vm → r.level = .emergency) ∧
    (v.vm ≤ r.emergency → r.service < v.vm → r.level = .service) ∧
    (v.vm ≤ r.emergency → v.vm ≤ r.service → r.warning < v.vm → r.level = .warning) ∧
    (v.vm ≤ r.emergency → v.vm ≤ r.service → v.vm ≤ r.warning → r.level = .none) ∧
    (r.lineMaxFlag = true ↔ r.lineMax < v.vm)) ∧
  (∀ s : State,
    (∀ d, s.cfg.active = some d → s.cfg.commit ≠ .loading →
      ∃ (t u v : State) (out : SampleOut),
        out = s.pos.sample d (s.brake.sb.command == .applied) s.runningDir ∧
        v = ({ s.figuresSettled with draws := s.draws + 4 } : State).monitorSample d ∧ (u = v ∨ u = v.settle) ∧
        exec .sample s = .next t ∧ t.pos = out.monitor ∧ t.cfg = s.cfg ∧
        t.env.result =
          (u.env.view d u.load u.trip.state (u.trip.record.map fun r => r.dir) out.monitor.view).result ∧
        (out.causes = [] → s.notices = [] →
          t.env.result =
            (s.env.view d { s.load with passing := none } s.trip.state (s.trip.record.map fun r => r.dir)
              out.monitor.view).result)) ∧
    (s.cfg.active = none ∨ s.cfg.commit = .loading → exec .sample s = .next s) ∧
    (∀ (d : LineDesc) (out : SampleOut) (w : State),
      out = s.pos.sample d (s.brake.sb.command == .applied) s.runningDir →
      w = s.report (.position out.changed false false out.missed.isSome out.missed out.monitor.pos out.monitor.view.xP
        out.monitor.view.xQ) →
      ((out.changed = true ∨ out.missed.isSome = true) → (s.monitorSample d).port = w.port) ∧
      (out.changed = false → out.missed = none → (s.monitorSample d).port = s.port) ∧
      (s.cfg.active = some d → s.cfg.commit ≠ .loading → s.Secured → s.trip.state = .stranded → s.brake.de = false →
        out.causes = [] → out.monitor.view.vm = 0 →
        ∃ t, exec .sample s = .next t ∧
          ((out.changed = true ∨ out.missed.isSome = true) → t.port = w.port) ∧
          (out.changed = false → out.missed = none → t.port = s.port)))) ∧
  ∀ (u : State) (d : LineDesc), u.cfg.active = some d →
    (u.trip.state = .settling → u.pos.view.settled = true →
      u.tripView.trip.state = u.pos.view.stopWindowState ∧ u.tripView.trip.record = none ∧
        u.tripView.brake.sb.command = .applied ∧ u.tripView.brake.de = false ∧ u.tripView.load.snapshot = none ∧
        u.tripView.env.list = []) ∧
    (u.trip.state = .intervened → u.pos.view.settled = true →
      u.tripView.trip.state = u.pos.view.stopWindowState ∧ u.tripView.trip.record = none ∧
        u.tripView.load.snapshot = none ∧ u.tripView.env.list = []) ∧
    ((u.trip.state = .settling ∨ u.trip.state = .intervened) → u.pos.view.settled = false →
      u.tripView.trip.state = u.trip.state ∧ u.tripView.trip.vRef = u.trip.vRef) ∧
    (∀ k, u.trip.state = .parked k →
      (u.pos.view.pos = .confirmed → u.pos.view.atStop = some k → u.tripView = u.driveView) ∧
      ((u.pos.view.pos ≠ .confirmed ∨ u.pos.view.atStop ≠ some k) → u.tripView.trip.state = .stranded)) ∧
    ((u.trip.state = .stranded ∨ u.trip.state = .preparing ∨ u.trip.state = .lifting) → u.tripView = u.driveView) ∧
    (u.Secured →
      (∀ r, u.trip.state = .settling → u.pos.view.settled = true → u.trip.record = some r →
        (u.brake.sb.feedback = .lifted ∨ d.door.autoRelease = false) →
        u.tripView.port = (u.endedReport .settling u.pos.view.stopWindowState (match r.controlled with
          | none => .arrived
          | some .stopped => .stopped
          | some .alarm => .alarm
          | some .markFound => .markFound)).port) ∧
      (u.trip.state = .intervened → u.pos.view.settled = true →
        u.tripView.port = (u.endedReport .intervened u.pos.view.stopWindowState .intervenedEnd).port) ∧
      ((u.trip.state = .settling ∨ u.trip.state = .intervened) → u.pos.view.settled = false →
        u.tripView.port = u.port) ∧
      (∀ k, u.trip.state = .parked k → u.trip.record = none →
        (u.pos.view.pos ≠ .confirmed ∨ u.pos.view.atStop ≠ some k) →
        u.tripView.port = (u.endedReport (.parked k) .stranded .position).port) ∧
      (∀ (r : TripRecord) (x y : State) (creep : Prop) (st : TripState), u.trip.state.hauling = true →
        u.trip.record = some r →
        (creep ↔ u.trip.state = .running ∧ ∃ dist, u.env.result.destination = some dist ∧
          ((d.line.stopWindow / 2 : Nat) : Int) < dist ∧ dist ≤ (d.profile.creepDistance : Int)) →
        (u.trip.state = .running → r.markFound = true → r.controlled = none →
          x = u.recordReport r .running .running .markFound) →
        (¬(u.trip.state = .running ∧ r.markFound = true ∧ r.controlled = none) → x = u) →
        (creep → st = .creeping ∧ y = x.recordReport r .running .creeping .creep) →
        (¬creep → st = u.trip.state ∧ y = x) →
        (u.tripView.trip.state ≠ .settling → u.tripView.port = y.port) ∧
        (u.tripView.trip.state = .settling → u.tripView.port = (y.recordReport r st .settling .settle).port))) ∧
    (∀ r n, u.trip.record = some r → r.kind = .reference → n = min 500000 (r.refTravel + u.pos.view.travelP.natAbs) →
      ((u.trip.state = .running ∨ (u.trip.state = .settling ∧ u.pos.view.settled = false)) →
        ∃ q, u.tripView.trip.record = some q ∧ q.refTravel = n ∧ q.markFound = r.markFound) ∧
      (u.trip.state = .intervened → u.pos.view.settled = false →
        ∃ q, u.tripView.trip.record = some q ∧ q.refTravel = r.refTravel) ∧
      (u.trip.state = .running → u.tripView.trip.state = .running → d.line.refTravelLimit < n → r.markFound = false →
        .cause .referenceNotFound ∈ u.tripView.notices) ∧
      (.cause .referenceNotFound ∉ u.notices →
        (u.tripView.trip.state ≠ .running ∨ n ≤ d.line.refTravelLimit ∨ r.markFound = true) →
        .cause .referenceNotFound ∉ u.tripView.notices) ∧
      (u.trip.state = .running → r.markFound = true →
        (∃ q, u.tripView.trip.record = some q ∧ q.controlled = some (r.controlled.getD .markFound)) ∧
          (u.trip.vRef = 0 → u.tripView.trip.state = .settling))) ∧
    (∀ r e rest, u.trip.state.hauling = true ∨ u.trip.state = .settling ∨ u.trip.state = .intervened →
      u.trip.record = some r → r.overtravel = false →
      u.env.result.restrictions = rest ++ [e] → e.kind = .destination → (∀ x ∈ rest, x.kind = .zone) →
      e.distance < -(d.line.overtravel : Int) → .cause .overtravel ∈ u.tripView.notices ∧
        (∀ q, u.tripView.trip.record = some q → q.overtravel = true) ∧
        (u.trip.state.hauling = true ∨ u.pos.view.settled = false → u.tripView.trip.record.isSome = true)) ∧
    (∀ r, u.trip.record = some r → (r.overtravel = true ∨
        ∀ e ∈ u.env.result.restrictions, e.kind = .destination → -(d.line.overtravel : Int) ≤ e.distance) →
      (∀ q, u.tripView.trip.record = some q → q.overtravel = r.overtravel) ∧
        (.cause .overtravel ∉ u.notices → .cause .overtravel ∉ u.tripView.notices)) ∧
    (u.trip.state.hauling = true → u.tripView.trip.state.hauling = false → u.tripView.trip.progress = none ∧
      (.cause .noProgress ∉ u.notices → .cause .noProgress ∉ u.tripView.notices)) ∧
    (∀ r, u.trip.record = some r → u.tripView.trip.state.hauling = true →
      (u.trip.vRef < 200 → u.tripView.trip.progress = none ∧
        (.cause .noProgress ∉ u.notices → .cause .noProgress ∉ u.tripView.notices)) ∧
      (200 ≤ u.trip.vRef → u.trip.progress = none → u.tripView.trip.progress = some (0, 0) ∧
        (.cause .noProgress ∉ u.notices → .cause .noProgress ∉ u.tripView.notices)) ∧
      (∀ (f fwd : Int) (n : Nat), 200 ≤ u.trip.vRef → u.trip.progress = some (f, n) →
        fwd = (if r.dir = .up then u.pos.view.travelP else -u.pos.view.travelP) →
        (n + 1 < 200 → u.tripView.trip.progress = some (f + fwd, n + 1) ∧
          (.cause .noProgress ∉ u.notices → .cause .noProgress ∉ u.tripView.notices)) ∧
        (200 ≤ n + 1 → u.tripView.trip.progress = none ∧
          (f + fwd < 50 → .cause .noProgress ∈ u.tripView.notices) ∧
          (50 ≤ f + fwd → .cause .noProgress ∉ u.notices → .cause .noProgress ∉ u.tripView.notices))))

/-- R21, R30: line speed, motion and the speed history of a sample; standstill, the standstill count and settled. The oldest
entry of a channel's history is its position 8 samples earlier. R27, R26: the agreement test of a CONFIRMED position and the
resolution of a DISPUTED one; an UNREFERENCED position stays so. R31: the stop of the view is one whose window holds xP, and
in DISPUTED xQ too; it is none where no window does, and in UNREFERENCED. R28, R29, R32, R33: the missed mark, divergence,
the hold with its drift, and the rollback of a sample. That a mark is armed against the newest history entry, which an offset
change shifts, under the W_id in force, and not by an offset change, is DEDUCED, assumption log 20. R14: from a sample on the
windows of the active LINE record hold. -/
def Obligations.SampleMeasuresSpeedAndStandstill : Prop :=
  ∀ (d : LineDesc) (sb : Bool) (run : Option Dir) (m n : Monitor) (out : SampleOut), out = m.sample d sb run →
    n = out.monitor →
    n.oldWindows = none ∧ (n.pos = .confirmed → n.view.vm = n.view.vP.natAbs) ∧
    (n.pos ≠ .confirmed → n.view.vm = max n.view.vP.natAbs n.view.vQ.natAbs) ∧
    (0 < n.view.vP → n.view.motion = .up) ∧ (n.view.vP < 0 → n.view.motion = .down) ∧
    (n.view.vP = 0 → n.view.motion = .none) ∧
    n.vmHistory = m.vmHistory.drop 1 ++ [n.view.vm] ∧ Monitor.reset.vmHistory = List.replicate 50 0 ∧
    (n.view.standstill = true ↔ n.view.vP = 0 ∧ n.view.vQ = 0) ∧
    (∀ a b, m.p.history.head? = some a → m.q.history.head? = some b →
      (n.view.standstill = true ↔ n.view.xP = a ∧ n.view.xQ = b)) ∧
    (n.view.standstill = true → n.still = min 50 (m.still + 1)) ∧ (n.view.standstill = false → n.still = 0) ∧
    (∀ far : Nat, far = distance n.view.xP n.view.xQ →
      (m.pos = .confirmed → out.missed = none ∨ m.missedRun ≠ 1 →
        (far ≤ d.line.agreeWindow → n.pos = .confirmed ∧ n.excess = 0) ∧
        (d.line.agreeWindow < far → m.excess < 2 → n.pos = .confirmed ∧ n.excess = m.excess + 1)) ∧
      (m.pos = .confirmed → d.line.agreeWindow < far → 2 ≤ m.excess → n.pos = .disputed ∧ n.excess = 0) ∧
      (m.pos = .disputed → m.resolving = true →
        (far ≤ d.line.agreeWindow → out.missed = none ∨ m.missedRun ≠ 1 → n.pos = .confirmed ∧ n.excess = 0) ∧
        (d.line.agreeWindow < far → n.pos = .disputed) ∧ n.resolving = false) ∧
      (m.pos = .disputed → m.resolving = false → n.pos = .disputed ∧ n.resolving = false) ∧
      (m.pos = .unreferenced → n.pos = .unreferenced) ∧ (out.changed = true ↔ n.pos ≠ m.pos) ∧ n.view.pos = n.pos) ∧
    (n.pos = .unreferenced → n.view.atStop = none) ∧
    (∀ near : StopRec → Prop, (∀ y, near y ↔ distance n.view.xP y.x ≤ d.line.stopWindow ∧
        (n.pos = .disputed → distance n.view.xQ y.x ≤ d.line.stopWindow)) →
      (∀ k, n.view.atStop = some k → ∃ y, d.stops[k]? = some y ∧ near y) ∧
      (n.pos ≠ .unreferenced → n.view.atStop = none → ∀ y ∈ d.stops, ¬near y) ∧
      (∀ k y, n.pos ≠ .unreferenced → d.stops[k]? = some y → near y →
        (∀ j z, d.stops[j]? = some z → near z → j = k) → n.view.atStop = some k)) ∧
    (n.view.settled = true ↔ n.still = 50) ∧ Monitor.reset.still = 0 ∧ Monitor.reset.view.standstill = false ∧
    Monitor.reset.view.settled = false ∧
    (∀ k side p, m.pos ≠ .unreferenced → m.armed = some (k, side) → d.mark? k = some p →
      d.line.idWindow < distance n.view.xP p →
      (((side = .below ∧ (p : Int) < n.view.xP) ∨ (side = .above ∧ n.view.xP < (p : Int))) →
        out.missed = some k ∧ n.missed = min 255 (m.missed + 1) ∧ n.missedRun = min 255 (m.missedRun + 1) ∧
          (m.missedRun = 1 → n.pos = .disputed)) ∧
      (((side = .below ∧ n.view.xP < (p : Int)) ∨ (side = .above ∧ (p : Int) < n.view.xP)) →
        out.missed = none ∧ n.missed = m.missed ∧ n.missedRun = m.missedRun)) ∧
    (∀ k p was, m.pos ≠ .unreferenced → m.bandTestDue = false → m.movedInto ≠ some k →
      m.p.history.getLast? = some was → (k, p) ∈ d.marks → (∀ j q, (j, q) ∈ d.marks → distance n.view.xP q ≤ d.line.idWindow →
        j = k ∧ q = p) → d.mark? k = some p →
      distance n.view.xP p ≤ d.line.idWindow → d.line.idWindow < distance was p →
      n.armed = some (k, if was < (p : Int) then .below else .above)) ∧
    (∀ far : Nat, far = (if n.pos = .unreferenced then
        ((n.view.xP - m.p.base) - (n.view.xQ - m.q.base)).natAbs else (n.view.xP - n.view.xQ).natAbs) →
      (n.diverged = true ↔ 4 * d.line.agreeWindow < far) ∧
      (Cause.divergence ∈ out.causes ↔ 4 * d.line.agreeWindow < far ∧ m.diverged = false)) ∧
    (m.hold = none → n.hold = (if sb = true ∧ n.view.standstill = true then some (n.view.xP, n.view.xQ) else none) ∧
      Cause.driftUnderBrake ∉ out.causes) ∧
    (∀ h, m.hold = some h →
      (sb = false → n.hold = none) ∧
      (sb = true → (d.line.holdDriftLimit < distance n.view.xP h.1 ∨ d.line.holdDriftLimit < distance n.view.xQ h.2) →
        n.hold = some (n.view.xP, n.view.xQ) ∧ Cause.driftUnderBrake ∈ out.causes) ∧
      (sb = true → distance n.view.xP h.1 ≤ d.line.holdDriftLimit → distance n.view.xQ h.2 ≤ d.line.holdDriftLimit →
        n.hold = some h ∧ Cause.driftUnderBrake ∉ out.causes)) ∧
    (run = none → n.rollback = 0 ∧ n.forwardRun = 0 ∧ Cause.rollback ∉ out.causes) ∧
    (∀ dir (fP fQ : Int) (back : Nat), run = some dir → fP = (if dir = .up then n.view.travelP else -n.view.travelP) →
      fQ = (if dir = .up then n.view.travelQ else -n.view.travelQ) → (back : Int) = max 0 (max (-fP) (-fQ)) →
      (0 < back → m.rollback + back ≤ d.line.rollbackLimit →
        n.rollback = m.rollback + back ∧ n.forwardRun = 0 ∧ Cause.rollback ∉ out.causes) ∧
      (0 < back → d.line.rollbackLimit < m.rollback + back →
        n.rollback = 0 ∧ n.forwardRun = 0 ∧ Cause.rollback ∈ out.causes) ∧
      (back = 0 → 0 < fP → m.forwardRun < 7 →
        n.rollback = m.rollback ∧ n.forwardRun = m.forwardRun + 1 ∧ Cause.rollback ∉ out.causes) ∧
      (back = 0 → 0 < fP → 7 ≤ m.forwardRun → n.rollback = 0 ∧ n.forwardRun = 0 ∧ Cause.rollback ∉ out.causes) ∧
      (back = 0 → fP = 0 →
        n.rollback = m.rollback ∧ n.forwardRun = m.forwardRun ∧ Cause.rollback ∉ out.causes))

/-- R18, R20, R19: pulses move the travel count of their channel, which saturates. Channel position, channel speed and
position history of a sample, on each channel: the magnitude is |difference| × 25 / 2 rounded down, and it saturates. Its
travel is the scaled travel since the previous sample. That a delta beyond one pulse saturates on its sum is DESIGN CHOICE,
assumption log 14, and that both travels are read under the scale in force is DEDUCED, log 22. That no figures are passing
afterwards is DESIGN CHOICE, assumption log 44. -/
def Obligations.ChannelsCountAndRead : Prop :=
  (∀ (s : State) (delta : Int),
    exec (.encoderCount .p delta) s =
      .next { s.figuresSettled with pos := { s.pos with p := { s.pos.p with
        count := max (-2147483647) (min (s.pos.p.count + delta) 2147483647) } } } ∧
    exec (.encoderCount .q delta) s =
      .next { s.figuresSettled with pos := { s.pos with q := { s.pos.q with
        count := max (-2147483647) (min (s.pos.q.count + delta) 2147483647) } } }) ∧
  ∀ (d : LineDesc) (sb : Bool) (run : Option Dir) (m n : Monitor) (old : Int), n = (m.sample d sb run).monitor →
    m.p.history.head? = some old →
    n.view.xP = (m.p.count * 1000).tdiv d.line.countsP + m.p.offset ∧
    n.view.vP.natAbs = min 65535 ((n.view.xP - old).natAbs * 25 / 2) ∧ (n.view.xP < old → n.view.vP ≤ 0) ∧
    (old ≤ n.view.xP → 0 ≤ n.view.vP) ∧ n.p.history = m.p.history.drop 1 ++ [n.view.xP] ∧
    n.p.count = m.p.count ∧ n.p.offset = m.p.offset ∧ n.p.lastCount = m.p.count ∧
    n.view.travelP = (m.p.count * 1000).tdiv d.line.countsP - (m.p.lastCount * 1000).tdiv d.line.countsP ∧
    (∀ was, m.q.history.head? = some was →
      n.view.xQ = (m.q.count * 1000).tdiv d.line.countsQ + m.q.offset ∧
      n.view.vQ.natAbs = min 65535 ((n.view.xQ - was).natAbs * 25 / 2) ∧ (n.view.xQ < was → n.view.vQ ≤ 0) ∧
      (was ≤ n.view.xQ → 0 ≤ n.view.vQ)) ∧
    n.q.history = m.q.history.drop 1 ++ [n.view.xQ] ∧ n.q.count = m.q.count ∧ n.q.offset = m.q.offset ∧
    n.q.lastCount = m.q.count ∧
    n.view.travelQ = (m.q.count * 1000).tdiv d.line.countsQ - (m.q.lastCount * 1000).tdiv d.line.countsQ

/-- R23 to R26: a mark event. Outside a REFERENCE trip a known mark sets both channels in UNREFERENCED and confirms the
position; in CONFIRMED with both channels within W_corr it corrects them; with a channel further off it makes the position
DISPUTED; in DISPUTED it sets the resolving flag where both channels are within W_corr, and clears it otherwise. An unknown
number counts as UNEXPECTED and makes a CONFIRMED position DISPUTED. R24, R86: in a REFERENCE trip a known mark confirms the
position in every state, and the record holds that a mark was found, with a controlled stop in RUNNING. R17: while the part
is UNCONFIGURED the event is ignored; that it is ignored while LOADING too is DESIGN CHOICE, assumption log 43. R14: between
an activation and the next sample W_corr and W_id are those in force before it; what stands there after a first activation,
and after two, is DEDUCED, assumption log 56. R23, R20, R32: a channel whose own outcome is CORRECT is set to the mark also
where the event is MISMATCH or UNEXPECTED: its history and its coordinate of the hold position shift by the same amount; the
other channel stays. R35, R108, R102, R88: the POSITION report of the event with the positions after the correction, the
number delivered, which for an unknown mark is DEDUCED, assumption log 37, the capture and the FAULT report of MARK_MISMATCH
and UNEXPECTED_MARK (after the POSITION report: DESIGN CHOICE, assumption log 16; its departure number: DESIGN CHOICE, log
48), and the TRIP report MARK_FOUND. That no figures are passing afterwards is DESIGN CHOICE, assumption log 44. -/
def Obligations.MarkEventSetsThePosition : Prop :=
  ∀ (s : State) (k : Nat),
    (s.cfg.active = none → exec (.markEvent k) s = .next s) ∧
    (∀ d x wc wi, s.cfg.active = some d → d.mark? k = some x → s.refTrip = false → s.notices = [] →
      s.pos.oldWindows.getD (d.line.corrWindow, d.line.idWindow) = (wc, wi) →
      (s.pos.pos = .unreferenced →
        ∃ t, exec (.markEvent k) s = .next t ∧ t.pos.p.position d.line.countsP = x ∧
          t.pos.q.position d.line.countsQ = x ∧ t.pos.pos = .confirmed ∧
          t.pos.corrected = min 255 (s.pos.corrected + 1) ∧ t.pos.missedRun = 0 ∧ t.pos.view = s.pos.view ∧
          t.port = (s.report (.position true false false false (some k) .confirmed x x)).port ∧
          t.trip = s.trip ∧ t.brake = s.brake ∧ t.cfg = s.cfg) ∧
      (s.pos.pos = .confirmed → distance (s.pos.p.position d.line.countsP) x ≤ wc →
        distance (s.pos.q.position d.line.countsQ) x ≤ wc →
        ∃ t, exec (.markEvent k) s = .next t ∧ t.pos.p.position d.line.countsP = x ∧
          t.pos.q.position d.line.countsQ = x ∧ t.pos.pos = .confirmed ∧
          t.pos.corrected = min 255 (s.pos.corrected + 1) ∧ t.pos.missedRun = 0 ∧ t = { s.figuresSettled with
            pos := t.pos }) ∧
      (s.pos.pos = .confirmed ∨ s.pos.pos = .disputed → (wc < distance (s.pos.p.position d.line.countsP) x ∨
          wc < distance (s.pos.q.position d.line.countsQ) x) →
        ∃ t, exec (.markEvent k) s = .next t ∧ t.pos.pos = .disputed ∧ t.pos.resolving = false ∧
          t.pos.missedRun = 0 ∧ t.pos.corrected = s.pos.corrected ∧
          (((wc < distance (s.pos.p.position d.line.countsP) x ∧
              wi < distance (s.pos.p.position d.line.countsP) x) ∨
            (wc < distance (s.pos.q.position d.line.countsQ) x ∧
              wi < distance (s.pos.q.position d.line.countsQ) x)) →
            t.pos.unexpected = min 255 (s.pos.unexpected + 1) ∧ t.pos.mismatch = s.pos.mismatch ∧
              t.brake = (s.takeCause .unexpectedMark).brake ∧
              t.port = ((s.report (.position (decide (s.pos.pos = .confirmed)) false true false (some k) .disputed
                (t.pos.p.position d.line.countsP) (t.pos.q.position d.line.countsQ))).report
                  (.fault .unexpectedMark .recordOnly s.departureNumber s.pos.view.xP
                    ((t.brake.captures.find? fun e => e.cause == .unexpectedMark).map (·.count)) s.brake.state)).port) ∧
          (¬((wc < distance (s.pos.p.position d.line.countsP) x ∧
              wi < distance (s.pos.p.position d.line.countsP) x) ∨
            (wc < distance (s.pos.q.position d.line.countsQ) x ∧
              wi < distance (s.pos.q.position d.line.countsQ) x)) →
            t.pos.mismatch = min 255 (s.pos.mismatch + 1) ∧ t.pos.unexpected = s.pos.unexpected ∧
              t.brake = (s.takeCause .markMismatch).brake ∧
              t.port = ((s.report (.position (decide (s.pos.pos = .confirmed)) true false false (some k) .disputed
                (t.pos.p.position d.line.countsP) (t.pos.q.position d.line.countsQ))).report
                  (.fault .markMismatch .recordOnly s.departureNumber s.pos.view.xP
                    ((t.brake.captures.find? fun e => e.cause == .markMismatch).map (·.count)) s.brake.state)).port) ∧
          t.trip = s.trip ∧ t.brake.state = s.brake.state ∧ t.cfg = s.cfg) ∧
      (s.pos.pos = .disputed → distance (s.pos.p.position d.line.countsP) x ≤ wc →
        distance (s.pos.q.position d.line.countsQ) x ≤ wc →
        ∃ t, exec (.markEvent k) s = .next t ∧ t.pos.p.position d.line.countsP = x ∧
          t.pos.q.position d.line.countsQ = x ∧ t.pos.pos = .disputed ∧ t.pos.resolving = true ∧
          t.pos.corrected = min 255 (s.pos.corrected + 1) ∧ t.pos.missedRun = 0 ∧ t = { s.figuresSettled with
            pos := t.pos })) ∧
    (∀ (d : LineDesc) (x wc wi : Nat) (t : State) (dP dQ : Int), s.cfg.active = some d → d.mark? k = some x →
      s.notices = [] → s.pos.oldWindows.getD (d.line.corrWindow, d.line.idWindow) = (wc, wi) →
      exec (.markEvent k) s = .next t →
      dP = (if s.refTrip = true ∨ s.pos.pos = .unreferenced ∨ distance (s.pos.p.position d.line.countsP) x ≤ wc then
        x - s.pos.p.position d.line.countsP else 0) →
      dQ = (if s.refTrip = true ∨ s.pos.pos = .unreferenced ∨ distance (s.pos.q.position d.line.countsQ) x ≤ wc then
        x - s.pos.q.position d.line.countsQ else 0) →
      t.pos.p = { s.pos.p with offset := s.pos.p.offset + dP, history := s.pos.p.history.map (· + dP) } ∧
        t.pos.q = { s.pos.q with offset := s.pos.q.offset + dQ, history := s.pos.q.history.map (· + dQ) } ∧
        t.pos.hold = s.pos.hold.map fun h => (h.1 + dP, h.2 + dQ)) ∧
    (∀ d, s.cfg.active = some d → d.mark? k = none → s.notices = [] →
      ∃ t, exec (.markEvent k) s = .next t ∧ t.pos.unexpected = min 255 (s.pos.unexpected + 1) ∧
        t.pos.corrected = s.pos.corrected ∧ t.pos.mismatch = s.pos.mismatch ∧ t.pos.missedRun = s.pos.missedRun ∧
        t.pos.p = s.pos.p ∧ t.pos.q = s.pos.q ∧
        (s.pos.pos = .confirmed → t.pos.pos = .disputed) ∧ (s.pos.pos ≠ .confirmed → t.pos.pos = s.pos.pos) ∧
        (s.pos.pos = .disputed → s.refTrip = false → t.pos.resolving = false) ∧
        t.brake = (s.takeCause .unexpectedMark).brake ∧
        t.port = ((s.report (.position (decide (s.pos.pos = .confirmed)) false true false (some k) t.pos.pos
          (s.pos.p.position d.line.countsP) (s.pos.q.position d.line.countsQ))).report
            (.fault .unexpectedMark .recordOnly s.departureNumber s.pos.view.xP
              ((t.brake.captures.find? fun e => e.cause == .unexpectedMark).map (·.count)) s.brake.state)).port ∧
        t.trip = s.trip ∧ t.brake.state = s.brake.state ∧ t.cfg = s.cfg) ∧
    (∀ d x r, s.cfg.active = some d → d.mark? k = some x → s.trip.record = some r → r.kind = .reference →
      s.notices = [] →
      ∃ t, exec (.markEvent k) s = .next t ∧ t.pos.p.position d.line.countsP = x ∧
        t.pos.q.position d.line.countsQ = x ∧ t.pos.pos = .confirmed ∧
        t.pos.corrected = min 255 (s.pos.corrected + 1) ∧ t.pos.missedRun = 0 ∧ t.pos.view = s.pos.view ∧
        t.trip = { s.trip with record := some { r with
          markFound := true
          controlled := if s.trip.state = .running ∧ r.controlled = none then some .markFound else r.controlled } } ∧
        (∀ u, u = (if s.pos.pos = .confirmed then s else
            s.report (.position true false false false (some k) .confirmed x x)) →
          t.port = (if s.trip.state = .running ∧ r.controlled = none then u.recordReport r .running .running .markFound
            else u).port) ∧
        t.brake = s.brake ∧ t.door = s.door ∧ t.cfg = s.cfg)

/-- R41: the runaway imbalance of each direction, from the payloads of the downhill and the uphill car, and its within-limit
flag. -/
def Obligations.ImbalanceOfEachDirection : Prop :=
  ∀ (d : LineDesc) (links : Pair CarLink) (windows : Pair Window) (l : LiveLoad) (a b : Nat),
    l = liveFigures d links windows → a = l.cars.a.payload → b = l.cars.b.payload →
    (l.up.u : Int) = min 30000 (max 0 ((b : Int) - a)) ∧ (l.down.u : Int) = min 30000 (max 0 ((a : Int) - b)) ∧
    ¬(0 < l.up.u ∧ 0 < l.down.u) ∧ (a = b → l.up.u = 0 ∧ l.down.u = 0) ∧
    (l.up.within = true ↔ l.up.u ≤ d.car.imbalanceLimit) ∧ (l.down.within = true ↔ l.down.u ≤ d.car.imbalanceLimit)

/-- R38, R40, R42, R39: what a car counts as its load, from its link and its boarding window; its payload and gross mass; and
the braking capability of every zone and direction, which lies within a_floor to a_nom. R46, R49: whether a payload came from
count or from weigh; nothing is said of a weigh equal to the count, of which neither rule speaks (a free value, DESIGN
CHOICE, assumption log 4). -/
def Obligations.LoadAndBrakingCapability : Prop :=
  ∀ (d : LineDesc) (links : Pair CarLink) (windows : Pair Window) (l : LiveLoad) (z : Nat) (r : ZoneRec),
    l = liveFigures d links windows → d.zones[z]? = some r →
    (∀ c, (l.cars.get c).onboard = (links.get c).onboard ∧
      ((windows.get c).state = .shut → (l.cars.get c).pending = 0 ∧ (l.cars.get c).inflight = 0) ∧
      ((windows.get c).state ≠ .shut → (l.cars.get c).pending = (windows.get c).pending ∧
        (l.cars.get c).inflight = (windows.get c).inflight) ∧
      (l.cars.get c).payloadCount =
        ((links.get c).onboard + (l.cars.get c).pending + (l.cars.get c).inflight) * d.car.personMass ∧
      (l.cars.get c).payload = max (l.cars.get c).payloadCount ((l.cars.get c).weigh.getD 0) ∧
      ((l.cars.get c).weigh = none → (l.cars.get c).fromWeigh = false) ∧
      (∀ w, (l.cars.get c).weigh = some w →
        ((l.cars.get c).payloadCount < w → (l.cars.get c).fromWeigh = true) ∧
        (w < (l.cars.get c).payloadCount → (l.cars.get c).fromWeigh = false)) ∧
      (l.cars.get c).gross = d.car.emptyMass + (l.cars.get c).payload ∧
      (∀ w, (l.cars.get c).weigh = some w ↔
        (links.get c).live = true ∧ (links.get c).weigh = some w ∧ w ≤ 2 * d.car.capacity * d.car.personMass)) ∧
    (∀ dir, (l.dir dir).aEff[z]? =
      some (max d.line.aFloor (d.line.aNom - (l.dir dir).u * r.sensitivity / 1000))) ∧
    (d.line.aFloor ≤ d.line.aNom → ∀ dir v, (l.dir dir).aEff[z]? = some v → d.line.aFloor ≤ v ∧ v ≤ d.line.aNom)

/-- R52, R57: what the calculator builds at the entry to LIFTING, from the leading position of R34: a zone entry for each
boundary ahead at which the limit falls, in the direction of travel, and the DESTINATION entry last, which a zone entry at
the destination merges into; no entry for a REFERENCE trip. R53: a_r of an entry is the smallest snapshot a_eff from the
current zone to its own, worked out at the build and at each view whose current zone is not the zone of record. R54: at a
view each entry has its signed distance, and a ZONE entry behind the car is removed, the others keeping their order. R55: v_r
of every entry of the restriction list at a view. That a trip's list counts as held, empty or not, while a class cap is in
force is DEDUCED, assumption log 21. R74 to R76, R78: what the trip controller does with a view in RUNNING or CREEPING:
SETTLING within half the stop window of the destination, else CREEPING within the creep distance; and then the new v_ref,
from the smallest of the class cap, the curves, the creep and the stop terms, by the ramp and under the envelope. That a view
which enters SETTLING leaves it there, also where that view is settled, is DEDUCED, assumption log 19. -/
def Obligations.RestrictionSpeedOfAView : Prop :=
  (∀ (v : View) (dir : Dir) (p : Int), v.leading dir = some p ↔ (v.pos = .confirmed ∧ p = v.xP) ∨
    (v.pos = .disputed ∧ p = if dir = .up then max v.xP v.xQ else min v.xP v.xQ)) ∧
  (∀ (s : State) (r : TripRecord) (d : LineDesc) (e : Envelope), s.cfg.active = some d → e = (s.buildEnvelope r).env →
    e.cap = some (d.classCap r.cls) ∧ e.pendingCap = none ∧ e.vPerm = 0 ∧ (r.kind = .reference → e.list = []) ∧
    (∀ p z, s.pos.view.leading r.dir = some p → d.ZoneOf p z → e.zoneOfRecord = some z) ∧
    (∀ k y p, r.kind ≠ .reference → r.destination = some k → d.stops[k]? = some y →
      s.pos.view.leading r.dir = some p → e.list = buildList d s.load r.dir p y.x)) ∧
  (∀ (d : LineDesc) (est : Estimator) (dir : Dir) (p0 : Int) (dest : Nat) (l : List Restriction),
    l = buildList d est dir p0 dest →
    (∃ zs e, l = zs ++ [e] ∧ e.kind = .destination ∧ e.position = dest ∧ e.target ≤ d.line.releaseSpeed ∧
      (∀ t, d.BoundaryAhead dir p0 dest dest t → e.target ≤ t) ∧
      (e.target = d.line.releaseSpeed ∨ d.BoundaryAhead dir p0 dest dest e.target) ∧
      (∀ x ∈ zs, x.kind = .zone ∧ x.position ≠ dest ∧ d.BoundaryAhead dir p0 dest x.position x.target) ∧
      (∀ pos t, pos ≠ dest → d.BoundaryAhead dir p0 dest pos t → ∃ x ∈ zs, x.position = pos ∧ x.target = t)) ∧
    ((d.zones.map (·.start)).Pairwise (· < ·) →
      (l.map (·.position)).Pairwise fun a b => if dir = .up then a < b else b < a) ∧
    l.length ≤ max 1 d.zones.length ∧
    ∀ sn, est.snapshot = some sn → ∀ x ∈ l, d.SmallestBetween sn.aEff p0 x.position x.ar) ∧
  (∀ (d : LineDesc) (est : Estimator) (e f : Envelope) (p : Int) (z : Nat) (sn : Snapshot), d.ZoneOf p z →
    est.snapshot = some sn → f = e.rezone d est p →
    ((e.cap = none ∨ e.zoneOfRecord = some z) → f = e) ∧
    (e.cap.isSome = true → e.zoneOfRecord ≠ some z →
      f = { e with list := f.list, zoneOfRecord := some z } ∧ f.list.length = e.list.length ∧
        ∀ (i : Nat) (x y : Restriction), e.list[i]? = some x → f.list[i]? = some y →
          y = { x with ar := y.ar } ∧ d.SmallestBetween sn.aEff p y.position y.ar)) ∧
  (∀ (d : LineDesc) (dir : Dir) (p : Int) (e f : Envelope) (dist : Restriction → Int), f = e.advance d dir p →
    (∀ x, dist x = if dir = .up then (x.position : Int) - p else p - x.position) →
    f = { e with list := f.list } ∧ (f.list.map (·.position)).Sublist (e.list.map (·.position)) ∧
    (∀ y ∈ f.list, ∃ x ∈ e.list, y = { x with distance := dist x, vr := y.vr } ∧ (y.kind = .zone → 0 ≤ y.distance)) ∧
    (∀ x ∈ e.list, (x.kind = .destination ∨ 0 ≤ dist x) → ∃ y ∈ f.list, y = { x with distance := dist x, vr := y.vr })) ∧
  (∀ (d : LineDesc) (est : Estimator) (st : TripState) (dir : Option Dir) (v : View) (e : Envelope),
    (∀ x p, dir = some x → v.leading x = some p →
      (e.view d est st dir v).list = ((e.rezone d est p).advance d x p).list ∧
        (e.view d est st dir v).zoneOfRecord = (e.rezone d est p).zoneOfRecord) ∧
    ((dir = none ∨ v.pos = .unreferenced) →
      (e.view d est st dir v).list = e.list ∧ (e.view d est st dir v).zoneOfRecord = e.zoneOfRecord)) ∧
  (∀ (d : LineDesc) (dir : Dir) (p : Int) (e : Envelope) (r : Restriction) (q : Nat),
    r ∈ (e.advance d dir p).list → q = r.target * r.target + 2 * r.ar * (r.distance - d.line.overrun).toNat →
    (225000000 ≤ q → r.vr = 15000) ∧
    (q < 225000000 → r.vr * r.vr ≤ q ∧ q < (r.vr + 1) * (r.vr + 1)) ∧ r.vr ≤ 15000 ∧
    (r.distance ≤ d.line.overrun → r.target ≤ 15000 → r.vr = r.target)) ∧
  (∀ (u : State) (d : LineDesc) (r : TripRecord) (dist : Int), u.cfg.active = some d → u.trip.state.hauling = true →
    u.trip.record = some r → u.env.result.destination = some dist → dist ≤ ((d.line.stopWindow / 2 : Nat) : Int) →
    u.tripView.trip.state = .settling ∧ u.tripView.trip.vRef = 0) ∧
  ∀ (u : State) (d : LineDesc) (r : TripRecord) (cap dec ceiling v : Nat) (st : TripState) (slow : Prop)
    (curve : Restriction → Nat),
    u.cfg.active = some d → u.trip.state.hauling = true → u.trip.record = some r → r.markFound = false →
    r.profileCap = some cap →
    (∀ dist, u.env.result.destination = some dist → ((d.line.stopWindow / 2 : Nat) : Int) < dist) →
    (st = .creeping ↔ u.trip.state = .creeping ∨
      ∃ dist, u.env.result.destination = some dist ∧ dist ≤ (d.profile.creepDistance : Int)) →
    (st = .creeping ∨ st = .running) →
    (∀ e ∈ u.env.result.restrictions, ∀ g q, g = (if e.kind = .destination then d.profile.creepSpeed else e.target) →
      q = g * g + 2 * (e.ar * 3 / 4) * (e.distance - d.line.overrun).toNat →
      (225000000 ≤ q → curve e = 15000) ∧ (q < 225000000 → curve e * curve e ≤ q ∧ q < (curve e + 1) * (curve e + 1))) →
    (slow ↔ st = .creeping ∨ u.env.result.view.pos = .disputed) →
    (r.controlled.isSome = true → ceiling = 0) →
    (r.controlled = none →
      ceiling ≤ cap ∧ (∀ e ∈ u.env.result.restrictions, ceiling ≤ curve e) ∧ (slow → ceiling ≤ d.profile.creepSpeed) ∧
        (ceiling = cap ∨ (∃ e ∈ u.env.result.restrictions, ceiling = curve e) ∨ (slow ∧ ceiling = d.profile.creepSpeed))) →
    ((∃ e rest, u.env.result.restrictions = e :: rest ∧ dec = max 1 (e.ar * 3 / 4 / 100)) ∨
      ∃ sn low, u.env.result.restrictions = [] ∧ u.load.snapshot = some sn ∧ low ∈ sn.aEff ∧ (∀ a ∈ sn.aEff, low ≤ a) ∧
        dec = max 1 (low * 3 / 4 / 100)) →
    v = min (if u.trip.vRef ≤ ceiling then min (u.trip.vRef + d.profile.accel / 100) ceiling
        else max ceiling (u.trip.vRef - dec)) (u.env.result.vPerm - d.margin.profileMargin) →
    (¬(r.controlled.isSome = true ∧ v = 0) → u.tripView.trip.state = st ∧ u.tripView.trip.vRef = v) ∧
    (r.controlled.isSome = true → v = 0 → u.tripView.trip.state = .settling ∧ u.tripView.trip.vRef = 0)

/-! ### Car links -/

/-- R110, R112, R114 to R117, R39: a valid car status record, taken in every state of the part: the link is LIVE with its
liveness timer running, and the record's tag, counters, weigh value and flags stand in the car link controller and its side
reports in the door release controller. R142: an in-delta lowers the pending count of a window that is not SHUT, by the
smaller of the two. R79, R116: an ALARM flag that is set and was clear ends a lift, or puts a controlled stop unless one is
present; R118: a taken tag equal to that of the command in the slot empties it, outside a close cycle too. Only slot, tag and
the record shown may change beside. R131, R88: the DOOR reports LINK_LIVE, CAR_FAULT and ATTENDANT, and the TRIP report ALARM
after them (the order of the last three is DESIGN CHOICE, assumption log 16; that the report of an ended lift shows no record
is DEDUCED, log 17; that the door state of a car whose link becomes LIVE is set again before its report is DEDUCED, log 29).
R39: a weigh value above the bound adds 1 to the implausible-weigh count of its car, and any other leaves it. R93: a LOCKED
car that reports a side not LOCKED in a run ends the output permission, with SB APPLIED and DE OFF, and the drop count rises
by 1 where SB was LIFTED or DE ON; that it does so also where DOOR_UNLOCKED_RUN is raised by the same record is DESIGN
CHOICE, assumption log 49. That the counters of a record with the counter fault set are stored too is the model's choice
(DESIGN CHOICE, assumption log 50). -/
def Obligations.CarStatusIsTaken : Prop :=
  (∀ (s : State) (c : Car) (r : CarStatus) (n : Nat), s.notices = [] → s.trip.state.isParked = true →
    (s.link.get c).live = true → (s.door.get c).state = .opened → (s.door.get c).authority.isSome = true →
    r.left = (s.door.get c).left → r.right = (s.door.get c).right → (s.door.get c).allLocked = false →
    s.wrongSideOpen c = false →
    n = (match r.faults.counter, (s.link.get c).baselines with
      | false, some b => (r.inCounter - b.1).toNat
      | _, _ => 0) →
    ∃ t, exec (.carStatus c r) s = .next t ∧
      ((s.window c).state = .shut → t.board = s.board) ∧
      ((s.window c).state ≠ .shut → t.board = { s.board with
        windows := s.board.windows.set c { s.window c with
          pending := (s.window c).pending - min n (s.window c).pending } })) ∧
  (∀ (s : State) (c : Car) (r : CarStatus), s.Secured → (s.link.get c).live = true → r.left = .locked →
    r.right = .locked →
    (r.attendant.alarm = true → (s.link.get c).attendant.alarm = false →
      (∀ rec, s.trip.record = some rec → (s.trip.state = .running ∨ s.trip.state = .creeping) →
        ∃ t, exec (.carStatus c r) s = .next t ∧ t.brake = s.brake ∧
          t.port = (if rec.controlled = none then
            (s.flagReports c .locked r).recordReport rec s.trip.state s.trip.state .alarm else s.flagReports c .locked r).port ∧
          t.trip = { s.trip with record := some { rec with controlled := some (rec.controlled.getD .alarm) } }) ∧
      (s.trip.state = .lifting →
        ∃ t, exec (.carStatus c r) s = .next t ∧ t.trip.state = s.pos.view.stopWindowState ∧ t.trip.record = none ∧
          t.trip.tLift = none ∧ t.brake = { s.brake with sb := s.brake.sb.apply, de := false } ∧
          t.port = ((s.flagReports c .locked r).endedReport .lifting s.pos.view.stopWindowState .alarm).port ∧
          t.load.snapshot = none ∧ t.env.list = [])) ∧
    ((r.attendant.alarm = false ∨ (s.link.get c).attendant.alarm = true ∨ ¬(s.trip.state = .running ∨
        s.trip.state = .creeping ∨ s.trip.state = .lifting)) →
      (s.trip.state ≠ .preparing ∨ (s.link.get c).attendant.hold = false ∨ r.attendant.hold = true) →
      ∃ t, exec (.carStatus c r) s = .next t ∧ t.trip = s.trip ∧ t.brake = s.brake ∧
        t.port = (s.flagReports c .locked r).port)) ∧
  (∀ (s : State) (c : Car) (r : CarStatus) (n : Nat), s.notices = [] → (s.link.get c).live = false →
    (s.trip.state.isParked = true ∨ s.trip.state = .stranded) → (s.door.get c).state = .unknown →
    (∀ x, (s.door.get x).authority = none ∧ (s.door.get x).arrival = false) → (s.door.get c).left = .locked →
    (s.door.get c).right = .locked → r.left = .locked → r.right = .locked → n = (s.door.get c).retry →
    ∃ t, exec (.carStatus c r) s = .next t ∧ (t.link.get c).live = true ∧ (t.door.get c).state = .locked ∧
      t.trip = s.trip ∧ t.port = ((s.carReport c .linkLive .locked none n).flagReports c .locked r).port) ∧
  (∀ (s : State) (c : Car) (r : CarStatus), s.notices = [] → (s.trip.state.isParked = true ∨ s.trip.state = .stranded) →
    (s.link.get c).live = true → (s.door.get c).state ≠ .closing → (s.door.get c).state ≠ .held →
    (s.door.get c).cycle = none →
    ∃ t, exec (.carStatus c r) s = .next t ∧ (t.link.get c).tag = (s.link.get c).tag ∧
      (t.link.get c).slot = (if (s.link.get c).tag = r.tag.val then none else (s.link.get c).slot)) ∧
  (∀ (s : State) (c : Car) (r : CarStatus), s.notices = [] → (s.trip.state = .running ∨ s.trip.state = .creeping) →
    (s.link.get c).live = true → (s.door.get c).state = .locked → (s.door.get c).authority = none →
    (r.left ≠ .locked ∨ r.right ≠ .locked) →
    ∃ t, exec (.carStatus c r) s = .next t ∧ t.brake.de = false ∧ t.brake.sb.command = .applied ∧
      t.brake.drops = (if s.brake.de = true ∨ s.brake.sb.command = .lifted then min 255 (s.brake.drops + 1)
        else s.brake.drops)) ∧
  ∀ (s : State) (c : Car) (r : CarStatus),
    ∃ t, exec (.carStatus c r) s = .next t ∧
      (∀ d w, s.cfg.active = some d → r.weigh = some w →
        (2 * d.car.capacity * d.car.personMass < w.toNat →
          t.load.implausible = s.load.implausible.set c (min 255 (s.load.implausible.get c + 1))) ∧
        (w.toNat ≤ 2 * d.car.capacity * d.car.personMass → t.load.implausible = s.load.implausible)) ∧
      ((s.cfg.active = none ∨ r.weigh = none) → t.load.implausible = s.load.implausible) ∧
      t.link.get c = { s.link.get c with
        live := true, liveness := some 300, takenTag := some r.tag.val
        counters := some (r.inCounter, r.outCounter)
        baselines := if r.faults.counter then none else some (r.inCounter, r.outCounter)
        onboard := match r.faults.counter, (s.link.get c).baselines with
          | false, some b =>
            if r.inCounter = b.1 ∧ r.outCounter = b.2 then (s.link.get c).onboard
            else (max 0 (min (((s.link.get c).onboard : Int) + ((r.inCounter - b.1).toNat : Int) -
              ((r.outCounter - b.2).toNat : Int)) 999)).toNat
          | _, _ => (s.link.get c).onboard
        weigh := r.weigh.map fun w => w.toNat
        attendant := r.attendant, faults := r.faults, slot := (t.link.get c).slot, tag := (t.link.get c).tag
        shown := (t.link.get c).shown } ∧
      (t.door.get c).left = r.left ∧ (t.door.get c).right = r.right ∧ t.cfg = s.cfg ∧ t.pos = s.pos

/-- R113, R111, R39: the timers of a car link: liveness, the 100 ms car command, and the age of a weigh value. On entry to
LOST the command slot is empty and the tag is kept; the door state is UNKNOWN, the authority withdrawn, the close cycle ended
and the violation flags cleared; an OPEN window goes to CLOSING with reason LINK, or with that of the lost authority or door
state, which may reach it first, and is SHUT with its carry-over where no grant is in flight (R137 to R139); and in LIFTING,
RUNNING and CREEPING CAR_LINK_LOST_RUN is raised. R93: the output permission, what its test does, and the permission drop at
that entry: SB is APPLIED and DE OFF, and the drop count rises by 1 where SB was LIFTED or DE ON; that it rises also where
CAR_LINK_LOST_RUN is raised by the same loss is DESIGN CHOICE, assumption log 49. R131, R151: the reports of that entry in
PARKED, STRANDED and SETTLING: of the window, then WITHDRAWN with reason LINK, then LINK_LOST, with door state UNKNOWN (their
order: DESIGN CHOICE, assumption log 16). That an expiry of a liveness timer that does not run does nothing is DESIGN CHOICE,
assumption log 15, that an expired weigh value is held no longer is DESIGN CHOICE, log 43, and that no passing figure is
shown after it is DESIGN CHOICE, log 44. -/
def Obligations.CarLinkTimers : Prop :=
  (∀ s : State,
    (s.permission = true ↔ s.door.a.state = .locked ∧ s.door.b.state = .locked ∧ s.link.a.live = true ∧
      s.link.b.live = true) ∧
    (s.permission = false → (s.brake.de = true ∨ s.brake.sb.command = .lifted) →
      s.permissionTest = { s with
        brake := { s.brake with sb := s.brake.sb.apply, de := false, drops := min 255 (s.brake.drops + 1) } }) ∧
    ((s.permission = true ∨ (s.brake.de = false ∧ s.brake.sb.command = .applied)) → s.permissionTest = s)) ∧
  ∀ (s : State) (c : Car),
    ((s.link.get c).liveness.isSome = true →
      ∃ t, exec (.livenessTimerExpiry c) s = .next t ∧
        t.link.get c = { s.link.get c with
          live := false, liveness := none, baselines := none, weigh := none
          attendant := ⟨false, false, false, false⟩, faults := ⟨false, false⟩
          slot := (t.link.get c).slot, tag := (t.link.get c).tag, shown := (t.link.get c).shown } ∧
        (s.notices = [] → (t.link.get c).slot = none ∧ (t.link.get c).tag = (s.link.get c).tag ∧
          t.brake.de = false ∧ t.brake.sb.command = .applied ∧
          t.brake.drops = (if s.brake.de = true ∨ s.brake.sb.command = .lifted then min 255 (s.brake.drops + 1)
            else s.brake.drops) ∧
          t.door.get c = { s.door.get c with
            state := .unknown, authority := none, retry := 0, cycle := none, tClose := none, arrival := false
            memUnlocked := false, memNoAuthority := false, memWrongSide := false } ∧
          ((s.window c).state = .opened → 0 < (s.window c).inflight → ∃ why, (why = .link ∨
              (why = .authority ∧ (s.door.get c).authority.isSome = true) ∨
              (why = .doors ∧ (s.door.get c).state = .opened)) ∧
            t.window c = { s.window c with state := .closing, reason := some why, deferred := (t.window c).deferred }) ∧
          ((s.window c).state = .opened → (s.window c).inflight = 0 →
            t.window c = { s.window c with
              state := .shut, platform := none, pending := 0, inflight := 0, reason := none
              deferred := (t.window c).deferred } ∧
            ∀ p, (s.window c).platform = some p → p < s.board.carry.length →
              (s.window (otherCar c)).state ≠ .opened → (s.door.get (otherCar c)).arrival = false →
              t.board.carry[p]? = some (s.window c).pending) ∧
          ((s.window c).state ≠ .opened → t.window c = { s.window c with deferred := (t.window c).deferred }) ∧
          ((s.trip.state = .lifting ∨ s.trip.state = .running ∨ s.trip.state = .creeping) →
            (t.brake.state = .service ∨ t.brake.state = .emergency) ∧
              (hasCapture .carLinkLostRun t.brake.captures = true ∨ t.brake.overflow = true)) ∧
          (s.Secured → s.trip.state ≠ .lifting → s.trip.state ≠ .running → s.trip.state ≠ .creeping →
            t.brake.captures = s.brake.captures ∧ t.brake.overflow = s.brake.overflow) ∧
          (∀ lost : Report, lost = .door c .linkLost .unknown none (s.door.get c).left (s.door.get c).right 0
              ⟨false, false, false, false⟩ ⟨false, false⟩ s.recordDeparture →
            (s.trip.state.isParked = true ∨ s.trip.state = .stranded ∨ s.trip.state = .settling) →
            (s.door.get (otherCar c)).arrival = false →
            ((s.door.get (otherCar c)).authority = none ∨ (s.authoritySide (otherCar c)).isSome = true) →
            ((s.door.get c).authority = none → (s.window c).state ≠ .opened → t.port = (s.report lost).port) ∧
            ((s.door.get c).authority.isSome = true → ∃ why, (why = .link ∨ why = .authority ∨
                (why = .doors ∧ (s.door.get c).state = .opened)) ∧
              t.port = (((s.closingReport c why s.recordDeparture).report (.door c (.withdrawn .link) .unknown none
                (s.door.get c).left (s.door.get c).right 0 ⟨false, false, false, false⟩ ⟨false, false⟩
                s.recordDeparture)).report lost).port))) ∧
        t.cfg = s.cfg ∧ t.pos = s.pos) ∧
    ((s.link.get c).liveness = none → exec (.livenessTimerExpiry c) s = .next s) ∧
    (∀ x : CarCommand, x =
        { authority := (s.door.get c).authority, command := (s.link.get c).slot, tag := (s.link.get c).tag
          departing := decide (s.trip.state = .preparing ∨ s.trip.state = .lifting)
          outOfService := s.unconfigured || s.brake.latch
          stopping := (s.trip.record.bind (·.controlled)).isSome
          flag1 := (s.link.get c).flag1, flag2 := (s.link.get c).flag2 } →
      exec (.carCommandTimer c) s =
        .next { s.figuresSettled with
          link := s.link.set c { s.link.get c with shown := x }
          wires := s.wires.set (carWire c) ((s.wires.get (carWire c)).push (.carCommand x)) }) ∧
    (∀ l : Pair CarLink, l = s.link.set c { s.link.get c with weigh := none } →
      exec (.weighExpiry c) s =
        .next { s with
          link := l
          load := { s.load with live := s.cfg.active.map fun d => liveFigures d l s.board.windows, passing := none } })

/-- R111, R115, R43: CAR FLAGS and SET ONBOARD. Both are refused RANGE for a car code other than A or B, and SET ONBOARD for
a count above 999; that CAR FLAGS is refused RANGE for a flags byte with an unnamed bit set is DESIGN CHOICE, assumption log
11. A car command record goes out where a field of it has changed, and none where none has. That no passing figure is shown
after SET ONBOARD is DESIGN CHOICE, assumption log 44. -/
def Obligations.CarFlagsAndSetOnboard : Prop :=
  (∀ (s : State) (seq car f h l : Byte), s.TakesRequests →
    ((1 < car.toNat ∨ 4 ≤ f.toNat) → exec (.carFlags seq [car, f]) s = .next (s.replied 0x24#8 seq (.plain .range))) ∧
    (1 < car.toNat → exec (.setOnboard seq [car, h, l]) s = .next (s.replied 0x25#8 seq (.plain .range)))) ∧
  ∀ (s : State) (seq car f h l : Byte) (c : Car), s.TakesRequests → carOfCode car = some c →
    (f.toNat < 4 →
      ∃ t, exec (.carFlags seq [car, f]) s = .next t ∧
        t = { s.figuresSettled with port := (s.replied 0x24#8 seq (.plain .ok)).port, link := t.link, wires := t.wires } ∧
        t.link = s.link.set c { s.link.get c with
          flag1 := f.getLsbD 0, flag2 := f.getLsbD 1, shown := (t.link.get c).shown } ∧
        (t.link.get c).shown = t.carCommand c ∧
        (t.carCommand c = (s.link.get c).shown → t.wires = s.wires) ∧
        (t.carCommand c ≠ (s.link.get c).shown →
          t.wires = s.wires.set (carWire c) ((s.wires.get (carWire c)).push (.carCommand (t.carCommand c))))) ∧
    (be16 h l ≤ 999 →
      ∃ k : Pair CarLink, k = s.link.set c { s.link.get c with onboard := be16 h l } ∧
        exec (.setOnboard seq [car, h, l]) s =
          .next { s.replied 0x25#8 seq (.plain .ok) with
            link := k
            load := { s.load with live := s.cfg.active.map fun d => liveFigures d k s.board.windows, passing := none } }) ∧
    (999 < be16 h l → exec (.setOnboard seq [car, h, l]) s = .next (s.replied 0x25#8 seq (.plain .range)))

/-! ### Doors -/

/-- R120: when a car meets the authority conditions, and for which side. R121: where it holds authority and fails them, a
test withdraws it, and RELEASED becomes LOCKED, OPEN UNSECURED; so do a sample whose view fails them, the SB contact reading
LIFTED, the lift of SB and a change of trip state. R130: the three violation conditions, the memory flags that follow them,
and their causes, each raised where its condition is found with the flag clear; at a car status the cause is taken, and not
again while the condition holds. R123: the rows that refuse DOOR RELEASE. R123, R124, R118: DOOR RELEASE grants the authority
of the platform's side to a LOCKED car that meets the conditions, or to an UNSECURED one, which becomes OPEN; a car in
CLOSING or HELD goes on with authority. DOOR OPEN places an OPEN command under the next tag; in HELD it ends the hold, with
the state derived again. R122: the arrival flag of both cars is armed at the end of SETTLING in PARKED under auto_release
with the latch clear; a car whose flag is armed is granted authority at the first event that finds the conditions met, with
an OPEN command into an empty slot of a working door drive; the feedback of SB is such an event. The flag is cleared where
the trip state leaves PARKED, where the latch becomes set and at entry to LOST. R131, R151: the replies, and the DOOR reports
GRANTED and WITHDRAWN with reason CONDITION, after the WINDOW report of the same change (their order: DESIGN CHOICE,
assumption log 16). That no figures are passing afterwards is DESIGN CHOICE, assumption log 44. -/
def Obligations.DoorReleaseAndOpen : Prop :=
  (∀ (u : State) (c : Car) (side : Side), u.authoritySide c = some side ↔
    ∃ (d : LineDesc) (k i : Nat) (p : PlatformRec), u.cfg.active = some d ∧
      (u.trip.state = .parked k ∨ (u.trip.state = .preparing ∧ ∃ r, u.trip.record = some r ∧ r.origin = some k)) ∧
      u.pos.view.atStop = some k ∧ u.pos.view.pos = .confirmed ∧ u.pos.view.settled = true ∧
      u.brake.sb.command = .applied ∧ u.brake.sb.feedback = .applied ∧ (u.link.get c).live = true ∧
      d.stopPlatform? k c = some i ∧ d.platform? i = some p ∧ side = p.side) ∧
  (∀ (u : State) (c : Car) (st : TripState),
    (((u.door.get c).authority = none ∨ (u.authoritySide c).isSome = true) → u.authorityTest c = u) ∧
    ((u.door.get c).authority.isSome = true → u.authoritySide c = none →
      ((u.authorityTest c).door.get c).authority = none ∧
        ((u.authorityTest c).door.get c).state = (match (u.door.get c).state with
          | .released => .locked
          | .opened => .unsecured
          | x => x) ∧
        (∃ why, (why = .authority ∨ (why = .doors ∧ (u.door.get c).state = .opened)) ∧
          (u.authorityTest c).port = ((u.closingReport c why u.recordDeparture).carReport c (.withdrawn .condition)
            (match (u.door.get c).state with
              | .released => .locked
              | .opened => .unsecured
              | x => x) none (u.door.get c).retry).port) ∧
        (u.authorityTest c).door.get (otherCar c) = u.door.get (otherCar c) ∧ (u.authorityTest c).trip = u.trip) ∧
    (u.brake.sb.command = .applied → u.authoritySide c = none → (u.authorityTests.door.get c).authority = none ∧
      (u.doorTests.door.get c).authority = none) ∧
    ((u.brake.sb.command = .applied ∨ (st.isParked = false ∧ st ≠ .preparing)) →
      ({ u with trip := { u.trip with state := st } } : State).authoritySide c = none →
      ((u.setTripState st).door.get c).authority = none)) ∧
  (∀ (u : State) (c : Car) (run without wrong : Bool),
    (run = true ↔ ((u.door.get c).left ≠ .locked ∨ (u.door.get c).right ≠ .locked) ∧
      (u.trip.state = .lifting ∨ u.trip.state = .running ∨ u.trip.state = .creeping ∨
        ((u.trip.state = .settling ∨ u.trip.state = .intervened) ∧ u.pos.view.standstill = false))) →
    (without = true ↔ (u.door.get c).state = .unsecured ∧ run = false) →
    (wrong = true ↔ ((u.door.get c).authority = some .left ∧ (u.door.get c).right ≠ .locked) ∨
      ((u.door.get c).authority = some .right ∧ (u.door.get c).left ≠ .locked)) →
    u.unlockedRun c = run ∧ u.openWithoutAuthority c = without ∧ u.wrongSideOpen c = wrong ∧
    ((u.link.get c).live = false → u.violationTest c = u) ∧
    ((u.link.get c).live = true → u.violationTest c = { u with
      door := u.door.set c { u.door.get c with memUnlocked := run, memNoAuthority := without, memWrongSide := wrong }
      notices := u.notices ++
        (if run = true ∧ (u.door.get c).memUnlocked = false then [.cause .doorUnlockedRun] else []) ++
        (if without = true ∧ (u.door.get c).memNoAuthority = false then [.cause .doorWithoutAuthority] else []) ++
        (if wrong = true ∧ (u.door.get c).memWrongSide = false then [.cause .wrongSide] else []) })) ∧
  (∀ (s : State) (c : Car) (r : CarStatus), s.notices = [] → (s.link.get c).live = true →
    (r.left ≠ .locked ∨ r.right ≠ .locked) →
    ((s.trip.state = .running ∨ s.trip.state = .creeping) → (s.door.get c).memUnlocked = false → s.LatchLaw →
      ∃ t, exec (.carStatus c r) s = .next t ∧ t.brake.state = .emergency ∧ t.brake.sb.command = .applied ∧
        t.brake.eb.command = .applied ∧ t.brake.de = false ∧
        (hasCapture .doorUnlockedRun t.brake.captures = true ∨ t.brake.overflow = true)) ∧
    ((s.trip.state.isParked = true ∨ s.trip.state = .stranded) →
      ((s.door.get c).state = .locked ∨ (s.door.get c).state = .unsecured) → (s.door.get c).authority = none →
      ((s.door.get c).memNoAuthority = false →
        ∃ t, exec (.carStatus c r) s = .next t ∧ (t.door.get c).state = .unsecured ∧
          (t.door.get c).memNoAuthority = true ∧ (t.brake.state = .service ∨ t.brake.state = .emergency) ∧
          (hasCapture .doorWithoutAuthority t.brake.captures = true ∨ t.brake.overflow = true) ∧ t.trip = s.trip) ∧
      ((s.door.get c).memNoAuthority = true → (s.door.get c).state = .unsecured →
        ∃ t, exec (.carStatus c r) s = .next t ∧ (t.door.get c).state = .unsecured ∧ t.brake = s.brake ∧
          t.trip = s.trip)) ∧
    (s.trip.state.isParked = true → (s.authoritySide c).isSome = true →
      (((s.door.get c).authority = some .left ∧ r.right ≠ .locked) ∨
        ((s.door.get c).authority = some .right ∧ r.left ≠ .locked)) →
      ((s.door.get c).memWrongSide = false →
        ∃ t, exec (.carStatus c r) s = .next t ∧ (t.door.get c).authority = (s.door.get c).authority ∧
          (t.door.get c).memWrongSide = true ∧ (t.brake.state = .service ∨ t.brake.state = .emergency) ∧
          (hasCapture .wrongSide t.brake.captures = true ∨ t.brake.overflow = true) ∧ t.trip = s.trip) ∧
      ((s.door.get c).memWrongSide = true →
        ∃ t, exec (.carStatus c r) s = .next t ∧ (t.door.get c).memWrongSide = true ∧ t.brake.state = s.brake.state ∧
          t.brake.captures = s.brake.captures ∧ t.trip = s.trip))) ∧
  (∀ (s : State) (d : LineDesc) (v : View) (r : DriveStatus),
    (s.cfg.active = some d → s.cfg.commit ≠ .loading →
      v = (s.pos.sample d (s.brake.sb.command == .applied) s.runningDir).monitor.view →
      (v.settled = false ∨ v.pos ≠ .confirmed ∨ v.atStop = none) →
      ∃ t, exec .sample s = .next t ∧ ∀ c, (t.door.get c).authority = none) ∧
    (s.brake.sb.feedback = .applied →
      ∃ t, exec (.brakeFeedback .sb .lifted) s = .next t ∧ ∀ c, (t.door.get c).authority = none) ∧
    (s.notices = [] → r.status = .running → s.trip.state = .lifting → s.trip.liftPhase = .drive →
      ∃ t, exec (.driveStatus r) s = .next t ∧ ∀ c, (t.door.get c).authority = none)) ∧
  (∀ (s : State) (seq car : Byte) (b : ReplyBody), s.TakesRequests →
    (s.cfg.active = none → exec (.doorRelease seq [car]) s = .next (s.replied 0x20#8 seq (.plain .state))) ∧
    (s.cfg.active.isSome = true → 1 < car.toNat →
      exec (.doorRelease seq [car]) s = .next (s.replied 0x20#8 seq (.plain .range))) ∧
    (∀ c, s.cfg.active.isSome = true → carOfCode car = some c →
      (if (s.door.get c).authority.isSome = true then some (.done true)
        else if s.trip.state.isParked = false ∨ s.authoritySide c = none then some (.plain .state)
        else none) = some b →
      exec (.doorRelease seq [car]) s = .next (s.replied 0x20#8 seq b))) ∧
  (∀ (u : State) (c : Car),
    (∀ side, (u.door.get c).arrival = true → u.trip.state.isParked = true → (u.door.get c).authority = none →
      u.authoritySide c = some side →
      ((u.grantTest c).door.get c).authority = some side ∧ ((u.grantTest c).door.get c).arrival = false ∧
        ((u.grantTest c).door.get c).state = (if (u.door.get c).state = .closing ∨ (u.door.get c).state = .held then
          (u.door.get c).state else if (u.door.get c).allLocked then .released else .opened) ∧
        (∀ st, st = ((u.grantTest c).door.get c).state → (u.door.get c).state ≠ .opened →
          (u.grantTest c).port =
            ((if st = .opened then u.autoReport c else u).carReport c .granted st (some side) (u.door.get c).retry).port) ∧
        (u.grantTest c).door.get (otherCar c) = u.door.get (otherCar c) ∧ (u.grantTest c).trip = u.trip ∧
        ((u.link.get c).slot = none → (u.link.get c).faults.doorDrive = false →
          ((u.grantTest c).link.get c).slot = some .openDoors ∧
            ((u.grantTest c).link.get c).tag = ((u.link.get c).tag + 1) % 8) ∧
        (((u.link.get c).slot.isSome = true ∨ (u.link.get c).faults.doorDrive = true) →
          ((u.grantTest c).link.get c).slot = (u.link.get c).slot ∧
            ((u.grantTest c).link.get c).tag = (u.link.get c).tag)) ∧
    (((u.door.get c).arrival = false ∨ u.trip.state.isParked = false ∨ u.authoritySide c = none) → u.grantTest c = u) ∧
    (∀ d, u.cfg.active = some d → u.trip.state = .settling → u.pos.view.settled = true →
      u.brake.sb.feedback = .lifted →
      (u.pos.view.stopWindowState.isParked = true → d.door.autoRelease = true → u.brake.latch = false →
        (u.tripView.door.get c).arrival = true) ∧
      (u.pos.view.stopWindowState.isParked = true → (d.door.autoRelease = false ∨ u.brake.latch = true) →
        (u.tripView.door.get c).arrival = (u.door.get c).arrival) ∧
      (u.pos.view.stopWindowState.isParked = false → (u.tripView.door.get c).arrival = false)) ∧
    (∀ st : TripState, st.isParked = false → ((u.setTripState st).door.get c).arrival = false) ∧
    (∀ x : Cause, x.severity ≠ .recordOnly → u.brake.latch = false → ((u.takeCause x).door.get c).arrival = false) ∧
    ((u.doorLost c).door.get c).arrival = false) ∧
  (∀ (s : State) (c : Car) (side : Side), s.notices = [] → s.trip.state.isParked = true →
    s.brake.sb.feedback = .lifted →
    ({ s with brake := { s.brake with sb := s.brake.sb.read .applied } } : State).authoritySide c = some side →
    (s.door.get c).arrival = true → (s.door.get c).authority = none → (s.door.get c).state = .locked →
    (s.door.get c).left = .locked → (s.door.get c).right = .locked → (s.link.get c).slot = none →
    (s.link.get c).faults.doorDrive = false → (s.door.get (otherCar c)).authority = none →
    ((s.door.get (otherCar c)).arrival = false ∨ ((s.door.get (otherCar c)).state = .locked ∧
      (s.door.get (otherCar c)).left = .locked ∧ (s.door.get (otherCar c)).right = .locked)) →
    ∃ t, exec (.brakeFeedback .sb .applied) s = .next t ∧
      t.door.get c = { s.door.get c with
        authority := some side, state := .released, arrival := false, memUnlocked := false, memNoAuthority := false
        memWrongSide := false } ∧
      ((s.door.get (otherCar c)).arrival = false →
        t.port = (s.carReport c .granted .released (some side) (s.door.get c).retry).port) ∧
      (t.link.get c).slot = some .openDoors ∧ (t.link.get c).tag = ((s.link.get c).tag + 1) % 8 ∧ t.trip = s.trip ∧
      t.brake.sb.feedback = .applied ∧ t.store = s.store ∧ t.pos = s.pos ∧ t.cfg = s.cfg) ∧
  ∀ (s : State) (seq car : Byte) (c : Car), s.TakesRequests → s.unconfigured = false → carOfCode car = some c →
    s.notices = [] → s.trip.state.isParked = true →
    (∀ side, (s.door.get c).authority = none → s.authoritySide c = some side → (s.door.get c).state = .locked →
      (s.door.get c).left = .locked → (s.door.get c).right = .locked →
      ∃ t, exec (.doorRelease seq [car]) s = .next t ∧
        t.door.get c = { s.door.get c with
          authority := some side, state := .released, arrival := false, memUnlocked := false, memNoAuthority := false
          memWrongSide := false } ∧
        t.port = ((s.replied 0x20#8 seq (.done false)).carReport c .granted .released (some side)
          (s.door.get c).retry).port ∧
        t.door.get (otherCar c) = s.door.get (otherCar c) ∧ t.trip = s.trip ∧ t.board = s.board ∧
        t.brake.sb = s.brake.sb ∧ t.brake.eb = s.brake.eb ∧ t.brake.de = false ∧ t.brake.state = s.brake.state ∧
        t.store = s.store ∧ t.pos = s.pos ∧ t.cfg = s.cfg) ∧
    (∀ side st, (s.door.get c).authority = none → s.authoritySide c = some side →
      (side = .left → (s.door.get c).right = .locked) → (side = .right → (s.door.get c).left = .locked) →
      (((s.door.get c).state = .unsecured ∧ (s.door.get c).allLocked = false ∧ st = .opened) ∨
        (((s.door.get c).state = .closing ∨ (s.door.get c).state = .held) ∧ st = (s.door.get c).state)) →
      ∃ t, exec (.doorRelease seq [car]) s = .next t ∧
        t.door.get c = { s.door.get c with
          authority := some side, state := st, arrival := false, memUnlocked := false, memNoAuthority := false
          memWrongSide := false } ∧
        (∀ u, u = s.replied 0x20#8 seq (.done false) →
          t.port = ((if st = .opened then u.autoReport c else u).carReport c .granted st (some side)
            (s.door.get c).retry).port) ∧
        t.door.get (otherCar c) = s.door.get (otherCar c) ∧ (t.link.get c).slot = (s.link.get c).slot ∧
        (t.link.get c).tag = (s.link.get c).tag ∧ t.trip = s.trip ∧ t.brake.sb = s.brake.sb ∧
        t.brake.eb = s.brake.eb ∧ t.brake.state = s.brake.state ∧ t.store = s.store ∧ t.pos = s.pos ∧ t.cfg = s.cfg) ∧
    ((s.link.get c).live = true → (s.door.get c).authority.isSome = true → (s.link.get c).faults.doorDrive = false →
      (s.door.get c).state = .held → (s.link.get c).slot = none → s.wrongSideOpen c = false →
      ∃ t, exec (.doorOpen seq [car]) s = .next t ∧
        (t.door.get c).state = (if (s.door.get c).allLocked then .released else .opened) ∧
        (∀ u, u = s.replied 0x21#8 seq (.plain .ok) →
          t.port = (if (s.door.get c).allLocked then u else u.autoReport c).port) ∧
        (t.door.get c).retry = 0 ∧ (t.door.get c).cycle = none ∧ (t.door.get c).tClose = none ∧
        (t.door.get c).authority = (s.door.get c).authority ∧ t.door.get (otherCar c) = s.door.get (otherCar c) ∧
        (t.link.get c).slot = some .openDoors ∧ (t.link.get c).tag = ((s.link.get c).tag + 1) % 8 ∧ t.trip = s.trip ∧
        t.brake.state = s.brake.state ∧ t.store = s.store ∧ t.pos = s.pos ∧ t.cfg = s.cfg) ∧
    ((s.link.get c).live = true → (s.door.get c).authority.isSome = true → (s.link.get c).faults.doorDrive = false →
      (s.door.get c).state ≠ .closing → (s.door.get c).state ≠ .held → (s.link.get c).slot = none →
      ∃ t, exec (.doorOpen seq [car]) s = .next t ∧
        t = { s.figuresSettled with port := (s.replied 0x21#8 seq (.plain .ok)).port, link := t.link, wires := t.wires } ∧
        t.link = s.link.set c { s.link.get c with
          slot := some .openDoors, tag := ((s.link.get c).tag + 1) % 8, shown := (t.link.get c).shown } ∧
        (t.link.get c).shown = t.carCommand c)

/-- R125, R126, R128: DOOR CLOSE withdraws the authority of a RELEASED car, and starts a close cycle of an OPEN, UNSECURED or
HELD one, in PARKED and STRANDED, whatever the state of its window: SHUT, it places CLOSE at once; OPEN with a grant in
flight, the window goes to CLOSING, with lock pending at the gates of its platform, and the cycle waits; OPEN without one,
the window shuts and CLOSE is placed for a car not all LOCKED (R126); CLOSING, the cycle waits. The reason of the closing is
DOOR_CLOSE, or DOORS where the change of door state reaches the window first (R137; a free choice, DESIGN CHOICE, assumption
log 2). DOOR CANCEL ends a cycle and empties the slot; T_close running out in phase CLOSE or REOPEN holds the doors, and
places REOPEN out of phase CLOSE alone (that an expiry of a T_close that does not run does nothing is DESIGN CHOICE, log 15).
A cycle starts in phase CLOSE with the window SHUT, and else waits in phase WINDOW for the notice of the shutting. R126 to
R128, R118: a valid car status of a LIVE car in a close cycle, with the trip PARKED or STRANDED: all LOCKED completes the
cycle in phase CLOSE or REOPEN and ends HELD; in phase WINDOW it has no effect on the cycle; an obstruction in phase CLOSE
with the CLOSE taken reopens the doors up to N_retry times and then holds them; in phase REOPEN with the REOPEN taken, doors
that stand open are closed again. R128: the rows of DOOR CANCEL that come before its OK, and the cancelling of a cycle, of a
hold and of a command alone, with the state derived by R119 in PARKED and STRANDED. R131, R151: the replies, WITHDRAWN with
reason CLOSED, CLOSING and SHUT of a window that DOOR CLOSE closes, HELD with TIMEOUT and with OBSTRUCTION, after the reports
of the flags of the same record (DESIGN CHOICE, assumption log 16), and OPENED where a cancelled cycle leaves the doors OPEN
under auto_window. That a retry count above 7 stays 7 is DEDUCED, assumption log 12. -/
def Obligations.DoorCloseCancelAndHold : Prop :=
  (∀ (u : State) (c : Car) (d : LineDesc), u.cfg.active = some d →
    (((u.startCycle c).door.get c).state = .closing ∧ ((u.startCycle c).door.get c).retry = 0 ∧
      ((u.startCycle c).door.get c).authority = (u.door.get c).authority ∧
      ((u.window c).state = .shut → ((u.startCycle c).door.get c).cycle = some .close ∧
        ((u.startCycle c).door.get c).tClose = some d.timing.doorCloseMs ∧
        ((u.startCycle c).link.get c).slot = some .closeDoors ∧
        ((u.startCycle c).link.get c).tag = ((u.link.get c).tag + 1) % 8) ∧
      ((u.window c).state ≠ .shut → ((u.startCycle c).door.get c).cycle = some .window ∧
        ((u.startCycle c).door.get c).tClose = none ∧ ((u.startCycle c).link.get c).slot = (u.link.get c).slot ∧
        ((u.startCycle c).link.get c).tag = (u.link.get c).tag ∧ ((u.startCycle c).window c).state ≠ .opened)) ∧
    ((u.door.get c).cycle = some .window → (u.door.get c).allLocked = false →
      ((u.windowShutForDoor c).door.get c) = { u.door.get c with
        cycle := some .close, tClose := some d.timing.doorCloseMs } ∧
        ((u.windowShutForDoor c).link.get c).slot = some .closeDoors ∧
        ((u.windowShutForDoor c).link.get c).tag = ((u.link.get c).tag + 1) % 8) ∧
    ((u.door.get c).cycle = some .window → (u.door.get c).allLocked = true →
      ((u.windowShutForDoor c).door.get c).state = .locked ∧ ((u.windowShutForDoor c).door.get c).authority = none ∧
        ((u.windowShutForDoor c).door.get c).cycle = none ∧ ((u.windowShutForDoor c).door.get c).tClose = none ∧
        ((u.windowShutForDoor c).door.get c).retry = 0 ∧
        ((u.door.get c).authority.isSome = true → (u.window c).state ≠ .opened →
          (u.windowShutForDoor c).port = (u.carReport c (.withdrawn .closed) .locked none 0).port)) ∧
    ((u.door.get c).cycle ≠ some .window → u.windowShutForDoor c = u)) ∧
  (∀ (s : State) (c : Car) (d : LineDesc) (r : CarStatus) (slot : Option DoorCommand) (n : Nat),
    s.cfg.active = some d → s.notices = [] → (s.trip.state.isParked = true ∨ s.trip.state = .stranded) →
    (s.link.get c).live = true → n = (s.door.get c).retry + 1 →
    slot = (if (s.link.get c).tag = r.tag.val then none else (s.link.get c).slot) →
    ((r.left = .locked ∧ r.right = .locked) → (((s.door.get c).state = .closing ∧
        ((s.door.get c).cycle = some .close ∨ (s.door.get c).cycle = some .reopen)) ∨ (s.door.get c).state = .held) →
      ∃ t, exec (.carStatus c r) s = .next t ∧ (t.door.get c).state = .locked ∧ (t.door.get c).authority = none ∧
        (t.door.get c).cycle = none ∧ (t.door.get c).tClose = none ∧ (t.door.get c).retry = 0 ∧
        (∀ u, u = s.flagReports c (s.door.get c).state r → (s.window c).state ≠ .opened →
          t.port = (if (s.door.get c).authority = none then u else u.report (.door c (.withdrawn .closed) .locked none
            .locked .locked 0 r.attendant r.faults s.recordDeparture)).port) ∧
        (t.link.get c).slot = (if slot = some .reopen then none else slot) ∧ (t.link.get c).tag = (s.link.get c).tag ∧
        t.trip = s.trip ∧ t.brake.state = s.brake.state ∧ t.pos = s.pos ∧ t.cfg = s.cfg) ∧
    ((s.door.get c).state = .closing → (s.door.get c).cycle.isSome = true →
      ((s.door.get c).authority = some .left → r.right = .locked) →
      ((s.door.get c).authority = some .right → r.left = .locked) →
      ∃ t, exec (.carStatus c r) s = .next t ∧ t.trip = s.trip ∧ t.brake.state = s.brake.state ∧ t.pos = s.pos ∧
        t.cfg = s.cfg ∧
        ((s.door.get c).cycle = some .window → (t.door.get c).state = .closing ∧ (t.door.get c).cycle = some .window ∧
          (t.door.get c).retry = (s.door.get c).retry ∧ (t.door.get c).authority = (s.door.get c).authority ∧
          (t.link.get c).slot = slot ∧ (t.link.get c).tag = (s.link.get c).tag) ∧
        ((s.door.get c).cycle = some .close → (r.left = .obstructed ∨ r.right = .obstructed) →
          (slot.isSome = true → (t.door.get c).state = .closing ∧ (t.door.get c).cycle = some .close ∧
            (t.door.get c).tClose = (s.door.get c).tClose ∧ (t.door.get c).retry = (s.door.get c).retry ∧
            (t.link.get c).slot = slot ∧ (t.link.get c).tag = (s.link.get c).tag) ∧
          (slot = none → (t.door.get c).retry = min 7 n ∧ (t.link.get c).slot = some .reopen ∧
            (t.link.get c).tag = ((s.link.get c).tag + 1) % 8 ∧
            (t.door.get c).authority = (s.door.get c).authority ∧
            (n ≤ d.door.obstructionRetries → (t.door.get c).state = .closing ∧ (t.door.get c).cycle = some .reopen ∧
              (t.door.get c).tClose = (s.door.get c).tClose ∧ t.port = (s.flagReports c .closing r).port) ∧
            (d.door.obstructionRetries < n → (t.door.get c).state = .held ∧ (t.door.get c).cycle = none ∧
              (t.door.get c).tClose = none ∧
              t.port = ((s.flagReports c .closing r).report (.door c (.held .obstruction) .held (s.door.get c).authority
                r.left r.right (min 7 n) r.attendant r.faults s.recordDeparture)).port))) ∧
        ((s.door.get c).cycle = some .reopen → ¬(r.left = .locked ∧ r.right = .locked) →
          (t.door.get c).state = .closing ∧ (t.door.get c).retry = (s.door.get c).retry ∧
            (t.door.get c).authority = (s.door.get c).authority ∧
            (slot = none → (r.left = .standingOpen ∨ r.right = .standingOpen) →
              (∀ x ∈ [r.left, r.right], x ≠ .moving ∧ x ≠ .obstructed) →
              (t.door.get c).cycle = some .close ∧ (t.door.get c).tClose = some d.timing.doorCloseMs ∧
                (t.link.get c).slot = some .closeDoors ∧ (t.link.get c).tag = ((s.link.get c).tag + 1) % 8) ∧
            ((slot.isSome = true ∨ r.left = .moving ∨ r.right = .moving ∨ r.left = .obstructed ∨
                r.right = .obstructed ∨ (r.left ≠ .standingOpen ∧ r.right ≠ .standingOpen)) →
              (t.door.get c).cycle = some .reopen ∧ (t.door.get c).tClose = (s.door.get c).tClose ∧
                (t.link.get c).slot = slot ∧ (t.link.get c).tag = (s.link.get c).tag)))) ∧
  (∀ (s : State) (seq car : Byte), s.TakesRequests →
    (s.cfg.active = none → exec (.doorCancel seq [car]) s = .next (s.replied 0x23#8 seq (.plain .state))) ∧
    (s.cfg.active.isSome = true → 1 < car.toNat →
      exec (.doorCancel seq [car]) s = .next (s.replied 0x23#8 seq (.plain .range))) ∧
    (∀ c, s.cfg.active.isSome = true → carOfCode car = some c →
      (s.trip.state.isParked = false → s.trip.state ≠ .stranded →
        exec (.doorCancel seq [car]) s = .next (s.replied 0x23#8 seq (.plain .state))) ∧
      ((s.trip.state.isParked = true ∨ s.trip.state = .stranded) →
        ((s.link.get c).slot = none → (s.door.get c).state ≠ .closing → (s.door.get c).state ≠ .held →
          exec (.doorCancel seq [car]) s = .next (s.replied 0x23#8 seq (.done true))) ∧
        (((s.link.get c).slot.isSome = true ∨ (s.door.get c).state = .closing ∨ (s.door.get c).state = .held) →
          s.notices = [] → s.wrongSideOpen c = false →
          ∃ t, exec (.doorCancel seq [car]) s = .next t ∧ (t.link.get c).slot = none ∧
            (t.link.get c).tag = (s.link.get c).tag ∧ (t.door.get c).cycle = none ∧ (t.door.get c).tClose = none ∧
            (t.door.get c).retry = 0 ∧ (t.door.get c).authority = (s.door.get c).authority ∧
            (t.door.get c).state = (if (s.link.get c).live = false then .unknown
              else if (s.door.get c).authority.isSome = true then
                (if (s.door.get c).left = .locked ∧ (s.door.get c).right = .locked then .released else .opened)
              else if (s.door.get c).left = .locked ∧ (s.door.get c).right = .locked then .locked else .unsecured) ∧
            (∀ u, u = s.replied 0x23#8 seq (.done false) → (s.window c).state ≠ .opened →
              (t.door.get c).state ≠ .unsecured →
              t.port = (if (t.door.get c).state = .opened ∧ (s.door.get c).state ≠ .opened then u.autoReport c else u).port) ∧
            t.trip = s.trip ∧ t.pos = s.pos ∧ t.cfg = s.cfg)))) ∧
  (∀ (s : State) (c : Car), ((s.door.get c).tClose = none → exec (.tCloseExpiry c) s = .next s) ∧
    (s.notices = [] → (s.trip.state.isParked = true ∨ s.trip.state = .stranded) → s.wrongSideOpen c = false →
      (s.door.get c).state = .closing → (s.door.get c).tClose.isSome = true →
      ((s.door.get c).cycle = some .close ∨ (s.door.get c).cycle = some .reopen) →
      ∃ t, exec (.tCloseExpiry c) s = .next t ∧ (t.door.get c).state = .held ∧ (t.door.get c).cycle = none ∧
        (t.door.get c).tClose = none ∧ (t.door.get c).retry = (s.door.get c).retry ∧
        (t.door.get c).authority = (s.door.get c).authority ∧
        ((s.door.get c).cycle = some .close → (t.link.get c).slot = some .reopen ∧
          (t.link.get c).tag = ((s.link.get c).tag + 1) % 8) ∧
        ((s.door.get c).cycle = some .reopen → (t.link.get c).slot = (s.link.get c).slot ∧
          (t.link.get c).tag = (s.link.get c).tag) ∧
        t.port = (s.carReport c (.held .timeout) .held (s.door.get c).authority (s.door.get c).retry).port ∧
        t.board = s.board ∧ t.trip = s.trip ∧ t.brake.state = s.brake.state ∧ t.pos = s.pos ∧ t.cfg = s.cfg)) ∧
  (∀ (s u : State) (seq car : Byte) (c : Car) (d : LineDesc) (w : Window), s.TakesRequests → s.cfg.active = some d →
    carOfCode car = some c → s.notices = [] → (s.trip.state.isParked = true ∨ s.trip.state = .stranded) →
    ((s.door.get c).state = .opened ∨ (s.door.get c).state = .unsecured ∨ (s.door.get c).state = .held) →
    (s.link.get c).slot = none → s.wrongSideOpen c = false → u = s.replied 0x22#8 seq (.done false) →
    ((s.window c).state = .opened → (s.window c).inflight = 0 → (s.door.get c).allLocked = false) →
    w = (if (s.door.get c).state = .opened then { s.window c with deferred := false } else s.window c) →
    ∃ t, exec (.doorClose seq [car]) s = .next t ∧ (t.door.get c).state = .closing ∧ (t.door.get c).retry = 0 ∧
      (t.door.get c).authority = (s.door.get c).authority ∧ (t.door.get c).arrival = false ∧
      t.board.grants = s.board.grants ∧ t.trip = s.trip ∧ t.brake.state = s.brake.state ∧ t.pos = s.pos ∧ t.cfg = s.cfg ∧
      ((s.window c).state = .shut → s.ClosePlaced t d c ∧ t.window c = w ∧ t.board.carry = s.board.carry ∧
        t.port = u.port) ∧
      ((s.window c).state = .closing → s.WindowAwaited t c ∧ t.window c = w ∧ t.board.carry = s.board.carry ∧
        t.port = u.port) ∧
      ((s.window c).state = .opened → ∃ why, (why = .doorClose ∨ (why = .doors ∧ (s.door.get c).state = .opened)) ∧
        t.port = (u.closingReport c why s.recordDeparture).port ∧
        (∀ p, (s.window c).platform = some p → t.bus = { s.bus with
          gates := s.bus.gates.map fun g =>
            if g.platform = some p ∧ g.state ≠ .disabled then { g with lock := true } else g }) ∧
        (0 < (s.window c).inflight → s.WindowAwaited t c ∧ t.window c = { w with state := .closing, reason := some why } ∧
          t.board.carry = s.board.carry) ∧
        ((s.window c).inflight = 0 → s.ClosePlaced t d c ∧
          t.window c = { w with state := .shut, platform := none, pending := 0, inflight := 0, reason := none } ∧
          ∀ p, (s.window c).platform = some p → t.board.carry = s.board.carry.set p (s.window c).pending))) ∧
  ∀ (s : State) (seq car : Byte) (c : Car) (d : LineDesc), s.TakesRequests → s.cfg.active = some d →
    carOfCode car = some c → s.notices = [] → s.trip.state.isParked = true → (s.window c).state = .shut →
    (s.link.get c).live = true → s.NoViolation c → (s.door.get c).authority.isSome = true →
    ((s.door.get c).state = .released → (s.link.get c).slot = none → (s.door.get c).left = .locked →
      (s.door.get c).right = .locked →
      ∃ t, exec (.doorClose seq [car]) s = .next t ∧ (t.door.get c).state = .locked ∧
        t.port = ((s.replied 0x22#8 seq (.done false)).carReport c (.withdrawn .closed) .locked none
          (s.door.get c).retry).port ∧
        (t.door.get c).authority = none ∧ (t.door.get c).arrival = false ∧ t.trip = s.trip ∧ t.board = s.board ∧
        t.pos = s.pos ∧ t.cfg = s.cfg) ∧
    ((s.door.get c).state = .closing →
      ∃ t, exec (.doorCancel seq [car]) s = .next t ∧
        (t.door.get c).state = (if (s.door.get c).allLocked then .released else .opened) ∧
        (∀ u, u = s.replied 0x23#8 seq (.done false) →
          t.port = (if (s.door.get c).allLocked then u else u.autoReport c).port) ∧
        (t.door.get c).cycle = none ∧ (t.door.get c).tClose = none ∧ (t.door.get c).retry = 0 ∧
        (t.door.get c).authority = (s.door.get c).authority ∧ (t.link.get c).slot = none ∧
        (t.link.get c).tag = (s.link.get c).tag ∧ t.trip = s.trip ∧ t.pos = s.pos ∧ t.cfg = s.cfg)

/-! ### Windows and passages -/

/-- R134: a change of door state to OPEN opens a SHUT window by itself where the platform of the stop has auto_window set and
the trip state is not PREPARING, or sets the deferred-open flag while WRITING; the flag is cleared when the door state leaves
OPEN, and tested and cleared at the end of the commit. R140, R141: the rows that refuse WINDOW CLOSE and CARRY CLEAR, in
their order. R135, R136, R140, R137 to R139, R141: WINDOW OPEN starts the pending count from the carry-over; WINDOW CLOSE
goes to CLOSING with grants in flight, and shuts at once without; CARRY CLEAR drops the carry-over of a platform without a
window. R151: the replies and the WINDOW reports OPENED, CLOSING, SHUT and CARRY_CLEARED, with the station of the platform.
That no passing figure is shown after WINDOW OPEN is DESIGN CHOICE, assumption log 44. -/
def Obligations.WindowsOpenCloseAndCarry : Prop :=
  (∀ (s : State) (c : Car) (p : Nat), s.carPlatform c = some p ↔ ∃ d k, s.cfg.active = some d ∧
    (s.trip.state = .parked k ∨ (s.trip.state = .preparing ∧ ∃ r, s.trip.record = some r ∧ r.origin = some k)) ∧
    d.stopPlatform? k c = some p) ∧
  (∀ (s : State) (c : Car) (auto : Prop), (auto ↔ ∃ d p r, s.cfg.active = some d ∧ s.carPlatform c = some p ∧
      d.platform? p = some r ∧ r.autoWindow = true) →
    (((s.window c).state ≠ .shut ∨ s.trip.state = .preparing ∨ ¬auto) → s.doorsOpened c = s) ∧
    ((s.window c).state = .shut → s.trip.state ≠ .preparing → auto →
      (s.cfg.commit = .writing → s.doorsOpened c = { s with
        board := { s.board with windows := s.board.windows.set c { s.window c with deferred := true } } }) ∧
      (s.cfg.commit ≠ .writing → s.doorsOpened c = s.openWindow c)) ∧
    ((s.window c).deferred = true → (s.door.get c).state = .opened → (s.window c).state = .shut → auto →
      s.deferredOpen c = s.openWindow c) ∧
    (((s.window c).deferred = false ∨ (s.door.get c).state ≠ .opened ∨ (s.window c).state ≠ .shut ∨ ¬auto) →
      s.deferredOpen c = { s with
        board := { s.board with windows := s.board.windows.set c { s.window c with deferred := false } } }) ∧
    (∀ d p n, s.cfg.active = some d → s.carPlatform c = some p → n = min (s.board.carry.getD p 0) d.car.capacity →
      (s.openWindow c).board = { s.board with
        carry := s.board.carry.set p 0
        windows := s.board.windows.set c
          { state := .opened, platform := some p, pending := n, inflight := 0, reason := none, granted := 0
            committed := 0, released := 0, unverified := 0, carryIn := n, deferred := false } } ∧
      (s.openWindow c).door = s.door ∧ (s.openWindow c).trip = s.trip ∧ (s.openWindow c).notices = s.notices ∧
      (∀ r, d.platform? p = some r → (s.openWindow c).port = (s.report (.window (.opened n (s.board.carry.getD p 0 - n)) c p
        r.station .opened s.recordDeparture)).port)) ∧
    (s.autoWindow c = true ↔ auto) ∧ (s.openWindow c).port = (s.openedReport c).port ∧
    (∀ a st extra, (s.door.get c).state = .opened → st ≠ .opened →
      ((s.setDoor c a st extra).window c).deferred = false) ∧
    (∀ r : CarStatus, s.notices = [] → s.trip.state.isParked = true → (s.link.get c).live = true →
      (s.door.get c).state = .released → (s.door.get c).authority.isSome = true → (s.window c).state = .shut →
      (((s.door.get c).authority = some .left ∧ r.left ≠ .locked ∧ r.right = .locked) ∨
        ((s.door.get c).authority = some .right ∧ r.right ≠ .locked ∧ r.left = .locked)) →
      ∃ t, exec (.carStatus c r) s = .next t ∧ (t.door.get c).state = .opened ∧ t.trip = s.trip ∧
        t.port = ((s.flagReports c .released r).autoReport c).port ∧
        (¬auto → t.board = s.board) ∧
        (auto → s.cfg.commit = .writing → t.board = { s.board with
          windows := s.board.windows.set c { s.window c with deferred := true } }) ∧
        (auto → s.cfg.commit ≠ .writing → t.board = (s.openWindow c).board))) ∧
  (∀ (s : State) (seq b : Byte) (body : ReplyBody), s.TakesRequests →
    (s.cfg.active = none → exec (.windowClose seq [b]) s = .next (s.replied 0x29#8 seq (.plain .state))) ∧
    (s.cfg.active.isSome = true → 1 < b.toNat →
      exec (.windowClose seq [b]) s = .next (s.replied 0x29#8 seq (.plain .range))) ∧
    ((if s.cfg.active = none then some (.plain .state)
        else if 5 < b.toNat then some (.plain .range)
        else if (s.cfg.active.bind fun d => d.platform? b.toNat) = none then some (.plain .absent)
        else if (s.window .a).platform = some b.toNat ∨ (s.window .b).platform = some b.toNat then some (.plain .state)
        else none) = some body →
      exec (.carryClear seq [b]) s = .next (s.replied 0x2A#8 seq body))) ∧
  ∀ (s : State) (seq car : Byte) (c : Car) (d : LineDesc), s.TakesRequests → s.cfg.commit = .idle →
    s.cfg.active = some d → carOfCode car = some c → s.notices = [] →
    (∀ p, (s.window c).state = .shut → s.trip.state ≠ .preparing → (s.door.get c).state = .opened →
      s.carPlatform c = some p →
      ∃ t, exec (.windowOpen seq [car]) s = .next t ∧
        t.board = { s.board with
          carry := s.board.carry.set p 0
          windows := s.board.windows.set c
            { state := .opened, platform := some p, pending := min (s.board.carry.getD p 0) d.car.capacity
              inflight := 0, reason := none, granted := 0, committed := 0, released := 0, unverified := 0
              carryIn := min (s.board.carry.getD p 0) d.car.capacity, deferred := false } } ∧
        t.port = ((s.replied 0x28#8 seq (.done false)).openedReport c).port ∧
        t = { s with
          board := t.board, port := t.port
          load := { s.load with live := some (liveFigures d s.link t.board.windows), passing := none } }) ∧
    (∀ p, (s.window c).state = .opened → (s.window c).platform = some p → 0 < (s.window c).inflight →
      ∃ t, exec (.windowClose seq [car]) s = .next t ∧
        t = { s.figuresSettled with
          port := ((s.replied 0x29#8 seq (.done false)).closingReport c .host s.recordDeparture).port
          board := { s.board with
            windows := s.board.windows.set c { s.window c with state := .closing, reason := some .host } }
          bus := { s.bus with gates := s.bus.gates.map fun g =>
            if g.platform = some p ∧ g.state ≠ .disabled then { g with lock := true } else g } }) ∧
    (∀ p, (s.window c).state = .opened → (s.window c).platform = some p → (s.window c).inflight = 0 →
      (s.door.get c).cycle ≠ some .window → s.trip.state ≠ .preparing →
      ∃ t, exec (.windowClose seq [car]) s = .next t ∧ (t.window c).state = .shut ∧ (t.window c).platform = none ∧
        t.port = ((s.replied 0x29#8 seq (.done false)).closingReport c .host s.recordDeparture).port ∧
        (t.window c).pending = 0 ∧ t.board.carry = s.board.carry.set p (s.window c).pending ∧
        t.board.grants = s.board.grants ∧ t.board.windows.get (otherCar c) = s.board.windows.get (otherCar c) ∧
        t.door = s.door ∧ t.trip = s.trip ∧ t.store = s.store ∧ t.cfg = s.cfg) ∧
    ((s.window c).state ≠ .opened → exec (.windowClose seq [car]) s = .next (s.replied 0x29#8 seq (.done true))) ∧
    (∀ b : Byte, b.toNat ≤ 5 → (d.platform? b.toNat).isSome = true → s.bound b.toNat = false →
      ∃ t, exec (.carryClear seq [b]) s = .next t ∧
        t = { s.figuresSettled with board := { s.board with carry := s.board.carry.set b.toNat 0 }, port := t.port } ∧
        ∀ q, d.platform? b.toNat = some q →
          t.port = ((s.replied 0x2A#8 seq (.plain .ok)).report (.window (.carryCleared (s.board.carry.getD b.toNat 0)) q.car
            b.toNat q.station (s.window q.car).state s.recordDeparture)).port)

/-- R144, R145, R143, R159, R163: the credit request of an open decision, with the platform it carries: a grant where every
test passes, with the pass table index as it stands at the grant; where a test fails, the verdict is a REFUSE with the reason
of the first that does, and no count changes; the decision closes either way, and no report is sent (R171). R43: a grant
recomputes the live figures. R153: while no poll is outstanding and no decision is open at another gate the next address is
polled after the verdict, and none where every gate is DISABLED; that a poll that waits behind the verdict is outstanding,
with the lock flag of the moment at which it was formed, is DEDUCED, assumption log 24, and DESIGN CHOICE, log 47. R143, 1.3:
the sum that the credit test compares, and the threshold of each category in eighths of the capacity; R144: the car whose
OPEN window is bound to the platform. That the state of the store is not tested, so that a decision that was open when a
store clear began may get its grant, is DESIGN CHOICE, assumption log 46. That the grants stand in order of gate address is
DESIGN CHOICE, assumption log 53. That no figures are passing afterwards is DESIGN CHOICE, assumption log 44. -/
def Obligations.CreditRequestMakesAGrant : Prop :=
  (∀ (s : State) (d : LineDesc) (c : Car) (p g : Nat), ([0, 1, 2, 3].map thresholdEighths = [8, 7, 6, 4]) ∧
    ([.priority, .staff, .standard, .group] : List Category).map d.threshold.code =
      [d.threshold.priority, d.threshold.staff, d.threshold.standard, d.threshold.group] ∧
    s.admittedSum c = (s.link.get c).onboard + (s.window c).pending + (s.window c).inflight ∧
    (s.openWindowAt p = some .a ↔ s.board.windows.a.state = .opened ∧ s.board.windows.a.platform = some p) ∧
    (s.openWindowAt p = some .b ↔ s.board.windows.b.state = .opened ∧ s.board.windows.b.platform = some p ∧
      ¬(s.board.windows.a.state = .opened ∧ s.board.windows.a.platform = some p)) ∧
    (s.grantAt g = none ↔ ∀ x ∈ s.board.grants, x.gate ≠ g) ∧
    (∀ x, s.grantAt g = some x → x ∈ s.board.grants ∧ x.gate = g)) ∧
  (∀ (s : State) (g : Nat) (x : Decision) (d : LineDesc) (reason : RefuseReason), s.cfg.active = some d →
    (s.gate g).decision = some x →
    (if (s.grantAt g).isSome = true then some .gateBusy
      else match x.platform.bind s.openWindowAt with
        | none => some .noCar
        | some c =>
          if ∃ y ∈ s.board.grants, y.kind = x.kind ∧ y.id = x.id ∧ y.gate ≠ g then
            some (if x.kind = .token then .spent else .passback)
          else if (s.window c).granted = 65535 ∨ d.car.capacity ≤ s.admittedSum c ∨
              d.car.capacity * thresholdEighths (d.threshold.code x.category) / 8 ≤ s.admittedSum c then some .full
          else none) = some reason →
    ∃ t v, exec (.creditRequest g) s = .next t ∧ v = (s.wires.get .gateBus).push (.verdict g (some reason) 0) ∧
      (t.wires.gateBus = v ∨ ∃ h l, t.wires.gateBus = v.push (.poll h l)) ∧
      (1 ≤ g → s.bus.outstanding = none → s.PollsAfter t (s.DecidingBeside g) v) ∧ t.board = s.board ∧
      t.load = s.figuresSettled.load ∧
      t.bus.gates = (if g = 0 then s.bus.gates else s.bus.gates.modify (g - 1) fun e => { e with decision := none }) ∧
      t.port = s.port ∧ t.store = s.store ∧ t.trip = s.trip ∧ t.brake = s.brake ∧ t.door = s.door ∧ t.cfg = s.cfg) ∧
  ∀ (s : State) (g p : Nat) (c : Car) (x : Decision) (d : LineDesc), s.cfg.active = some d →
    (s.gate g).decision = some x → x.platform = some p → s.grantAt g = none → s.openWindowAt p = some c →
    (s.board.grants.any fun y => y.kind == x.kind && y.id == x.id && y.gate != g) = false →
    (s.window c).granted ≠ 65535 → s.admittedSum c < d.car.capacity →
    s.admittedSum c < d.car.capacity * thresholdEighths (d.threshold.code x.category) / 8 →
      ∃ t, exec (.creditRequest g) s = .next t ∧
        t.board = { s.board with
          grants := insertGrant
            { gate := g, car := c, platform := p, kind := x.kind, id := x.id, category := x.category
              passIndex := (match x.kind with
                | .pass => s.store.passIndex? x.id
                | .token => none)
              day := s.store.day, second := s.store.clock, timer := d.timing.passageMs }
            s.board.grants
          windows := s.board.windows.set c { s.window c with
            inflight := (s.window c).inflight + 1, granted := (s.window c).granted + 1 } } ∧
        t.load = { s.load with live := some (liveFigures d s.link t.board.windows), passing := none } ∧
        t.bus.gates = (if g = 0 then s.bus.gates else
          s.bus.gates.modify (g - 1) fun e => { e with decision := none }) ∧
        (∃ v, v = (s.wires.get .gateBus).push (.verdict g none x.rides) ∧
          (t.wires.gateBus = v ∨ ∃ h l, t.wires.gateBus = v.push (.poll h l)) ∧
          (1 ≤ g → s.bus.outstanding = none → s.PollsAfter t (s.DecidingBeside g) v)) ∧
        t.port = s.port ∧ t.store = s.store ∧ t.trip = s.trip ∧ t.brake = s.brake ∧ t.door = s.door ∧ t.cfg = s.cfg

/-- R146, R147, R148, R139, R166, R167, R149: how a grant of an OPEN or CLOSING window ends. PASSED commits it and charges
the credential; ABANDONED and the grant's timer release it, the timer whatever the bus is doing (R147); a FAULT answer
commits it unverified and charges a token alone. The end of the last grant of a CLOSING window shuts the window, sets the
carry-over of its platform, and hands the SHUT state on; what the four commands leave is stated where no close cycle and no
departure waits for the shutting. Without a grant at the gate no count changes; a PASSED or ABANDONED answer then adds 1 to
the protocol errors of the gate, and a FAULT answer leaves its code there (R154). R43: the live figures are recomputed as a
grant ends. R153: after each of the three answers the next address is polled, and none while a decision is open or where
every gate is DISABLED (that the poll is outstanding from then on, and with the lock flag of that moment, is DEDUCED,
assumption log 24, and DESIGN CHOICE, log 47). R151, R171: the reports, ONLINE of an OFFLINE gate that answers, then FAULT
with its code and whether a grant was in flight, then SHUT where the window shuts (their order: DESIGN CHOICE, assumption log
16). R167, 9.3: what an append does to the spent-token ring, and the ring capacity of each plan. That an expiry of a timer
that does not run does nothing is DESIGN CHOICE, assumption log 15. That no figures are passing afterwards is DESIGN CHOICE,
assumption log 44. -/
def Obligations.GrantsEnd : Prop :=
  (ringCapacity 0 = 256 ∧ ringCapacity 1 = 384 ∧ ringCapacity 2 = 512 ∧ ringCapacity 3 = 128) ∧
  (∀ (capacity i : Nat) (ring : List Nat),
    (i ∈ ring → ringAppend capacity i ring = ring) ∧
    (i ∉ ring → ring.length < capacity → ringAppend capacity i ring = ring ++ [i]) ∧
    (i ∉ ring → capacity ≤ ring.length → ringAppend capacity i ring = ring.drop 1 ++ [i])) ∧
  (∀ (s : State) (x : Grant) (how : GrantEnd) (w : Window), w = (s.window x.car).endGrant how →
    s.GrantGone (s.endGrant x how) x w ∧ (s.endGrant x how).port = (s.shutReport x.car w).port ∧
    (s.endGrant x how).trip = s.trip ∧ (s.endGrant x how).door = s.door ∧
    (s.endGrant x how).notices =
      (if w.state = .closing ∧ w.inflight = 0 then s.notices ++ [.windowShut x.car] else s.notices)) ∧
  (∀ (s : State) (g : Nat), s.notices = [] →
    (∀ x w, s.grantAt g = some x → w = s.window x.car → s.ShutsAlone x.car →
      ∃ t, exec (.passageTimeout g) s = .next t ∧
        s.GrantGone t x { w with inflight := w.inflight - 1, released := w.released + 1 } ∧
        t.port = (s.shutReport x.car { w with inflight := w.inflight - 1, released := w.released + 1 }).port ∧
        t.bus = s.bus ∧ t.wires = s.wires ∧ t.store = s.store ∧ t.trip = s.trip ∧ t.brake = s.brake ∧ t.door = s.door ∧
        t.cfg = s.cfg) ∧
    (s.grantAt g = none → exec (.passageTimeout g) s = .next s)) ∧
  ∀ (s : State) (g : Nat) (code : Byte) (lock : Bool) (x : Grant) (w : Window), s.unconfigured = false →
    s.bus.outstanding = some (g, lock) → s.notices = [] → w = s.window x.car →
    (s.grantAt g = some x → s.ShutsAlone x.car →
      (∃ t, exec (.passed g) s = .next t ∧ s.PollsOn t s.gatePort ∧
        s.GrantGone t x { w with
          inflight := w.inflight - 1, pending := w.pending + 1, committed := w.committed + 1 } ∧
        (1 ≤ g → t.port = ((s.onlineReport g).shutReport x.car { w with
          inflight := w.inflight - 1, pending := w.pending + 1, committed := w.committed + 1 }).port) ∧
        (x.kind = .pass → t.store = { s.store with passes := s.store.passes.map fun y =>
          if y.id = x.id then { y with
            rides := if y.rides = 65535 then y.rides else y.rides - 1
            lastEntry := some (s.store.day, s.store.clock), lastPlatform := some x.platform } else y }) ∧
        (x.kind = .token → t.store = { s.store with
          ring := ringAppend (ringCapacity s.store.plan) x.id s.store.ring }) ∧
        t.trip = s.trip ∧ t.brake = s.brake ∧ t.door = s.door ∧ t.cfg = s.cfg) ∧
      (∃ t, exec (.abandoned g) s = .next t ∧ s.PollsOn t s.gatePort ∧
        s.GrantGone t x { w with inflight := w.inflight - 1, released := w.released + 1 } ∧
        (1 ≤ g → t.port = ((s.onlineReport g).shutReport x.car { w with
          inflight := w.inflight - 1, released := w.released + 1 }).port) ∧
        t.store = s.store ∧ t.trip = s.trip ∧ t.brake = s.brake ∧ t.door = s.door ∧ t.cfg = s.cfg) ∧
      (∃ t, exec (.gateFault g code) s = .next t ∧ s.PollsOn t s.gatePort ∧
        (1 ≤ g → t.bus.gates = s.bus.gates.modify (g - 1) (fun e => { e with
          misses := 0, lock := e.lock && !lock, state := if e.state = .offline then .online else e.state
          faultCode := some code.toNat })) ∧
        (1 ≤ g → t.port = (((s.onlineReport g).report (.gate (.fault g code.toNat true))).shutReport x.car { w with
          inflight := w.inflight - 1, pending := w.pending + 1, unverified := w.unverified + 1 }).port) ∧
        s.GrantGone t x { w with
          inflight := w.inflight - 1, pending := w.pending + 1, unverified := w.unverified + 1 } ∧
        (x.kind = .pass → t.store = s.store) ∧
        (x.kind = .token → t.store = { s.store with
          ring := ringAppend (ringCapacity s.store.plan) x.id s.store.ring }) ∧
        t.trip = s.trip ∧ t.brake = s.brake ∧ t.door = s.door ∧ t.cfg = s.cfg)) ∧
    (s.grantAt g = none →
      (∀ gates, gates = s.bus.gates.modify (g - 1) (fun e => { e with
          misses := 0, lock := e.lock && !lock, state := if e.state = .offline then .online else e.state
          protocolErrors := min 255 (e.protocolErrors + 1) }) →
        (∃ t, exec (.passed g) s = .next t ∧ s.PollsOn t s.gatePort ∧ (1 ≤ g → t.bus.gates = gates ∧ t.port = (s.onlineReport g).port) ∧
          t.board = s.board ∧ t.store = s.store ∧
          t.load = s.figuresSettled.load ∧ t.trip = s.trip ∧ t.brake = s.brake ∧ t.door = s.door ∧ t.cfg = s.cfg) ∧
        (∃ t, exec (.abandoned g) s = .next t ∧ s.PollsOn t s.gatePort ∧ (1 ≤ g → t.bus.gates = gates ∧ t.port = (s.onlineReport g).port) ∧
          t.board = s.board ∧
          t.store = s.store ∧ t.load = s.figuresSettled.load ∧ t.trip = s.trip ∧ t.brake = s.brake ∧
          t.door = s.door ∧ t.cfg = s.cfg)) ∧
      (∃ t, exec (.gateFault g code) s = .next t ∧ s.PollsOn t s.gatePort ∧ (1 ≤ g → t.bus.gates = s.bus.gates.modify (g - 1) (fun e => { e with
          misses := 0, lock := e.lock && !lock, state := if e.state = .offline then .online else e.state
          faultCode := some code.toNat }) ∧ t.port = ((s.onlineReport g).report (.gate (.fault g code.toNat false))).port) ∧
        t.board = s.board ∧ t.store = s.store ∧
        t.load = s.figuresSettled.load ∧ t.trip = s.trip ∧ t.brake = s.brake ∧ t.door = s.door ∧ t.cfg = s.cfg))

/-! ### Gates -/

/-- R153, R155, R157, R158: the answers to a poll. A valid answer sets the misses to 0, makes an OFFLINE gate ONLINE and
clears lock pending where the poll carried the flag; a PRESENT is refused with the reason of its first failing check in the
verdict order, or opens a decision with the presented credential, until whose verdict no poll goes out; otherwise the next
address in order is polled, and none while another decision is open or where every gate is DISABLED. R171: ONLINE is the one
report. R169, R168, R163: the class in use, the class map, what a deny entry covers, and the record of an id with its index,
which the decision carries with the rides. R17: while the part is UNCONFIGURED the twelve addresses are polled in turn, every
PRESENT is refused OUT_OF_SERVICE and no gate entry changes; that no poll goes out while LOADING is DEDUCED, assumption log
10. An answer of any of the five kinds without an outstanding poll of its gate is discarded and not counted. That a poll is
outstanding from the event that forms it, also while it waits behind a verdict, is DEDUCED, assumption log 24. That such a
poll keeps the lock flag of the moment at which it was formed is DESIGN CHOICE, assumption log 47. That no figures are
passing afterwards is DESIGN CHOICE, assumption log 44. -/
def Obligations.GateAnswers : Prop :=
  (∀ (s : State) (h : Nat) (x : Credential) (code : Byte),
    (s.bus.outstanding = none ∨ ∃ g lock, s.bus.outstanding = some (g, lock) ∧ h ≠ g) →
    ∀ c ∈ [Instr.nothing h, .present h x, .passed h, .abandoned h, .gateFault h code],
      exec c s = .next (s.recordTaken .gateBus)) ∧
  (∀ (c : CredStore) (n i : Nat) (e : DenyRec) (kind : CredKind), (∀ r, c.classes[n]? = some r → c.class? n = r) ∧
    (e.covers kind i = true ↔ (e.kind = .either ∨ (e.kind = .pass ∧ kind = .pass) ∨ (e.kind = .token ∧ kind = .token)) ∧
      i / 2 ^ e.k * 2 ^ e.k = e.base) ∧
    (c.pass? i = none ↔ ∀ p ∈ c.passes, p.id ≠ i) ∧ (∀ p, c.pass? i = some p → p ∈ c.passes ∧ p.id = i) ∧
    (c.passIndex? i = none ↔ c.pass? i = none) ∧
    (∀ j, c.passIndex? i = some j → c.passes[j]? = c.pass? i ∧ ∀ k p, k < j → c.passes[k]? = some p → p.id ≠ i)) ∧
  (∀ (s : State) (g : Nat) (x : Credential),
    (x.kind = .token → s.classInUse x = x.fareClass.val ∧ (s.decisionOf g x).rides = 0 ∧
      (s.decisionOf g x).passIndex = none) ∧
    (x.kind = .pass → s.store.pass? x.id.toNat = none → s.classInUse x = x.fareClass.val) ∧
    (∀ p, x.kind = .pass → s.store.pass? x.id.toNat = some p → s.classInUse x = p.cls ∧
      (s.decisionOf g x).rides = p.rides ∧ (s.decisionOf g x).passIndex = s.store.passIndex? x.id.toNat)) ∧
  (∀ (s : State) (g h : Nat) (lock : Bool) (x : Credential) (code : Byte) (port q : LinkPort), s.cfg.active = none →
    s.bus.outstanding = some (g, lock) → (∀ e ∈ s.bus.gates, e.decision = none) →
    port = s.gatePort →
    q = port.push (.verdict g (some .outOfService) 0) → h = (if s.bus.position < 12 then s.bus.position + 1 else 1) →
    (s.cfg.commit ≠ .loading →
      (∀ c ∈ [Instr.nothing g, .passed g, .abandoned g, .gateFault g code],
        exec c s = .next { s.figuresSettled with
          bus := { s.bus with position := h, outstanding := some (h, (s.gate h).lock) }
          wires := { s.wires with gateBus := port.push (.poll h (s.gate h).lock) } }) ∧
      exec (.present g x) s = .next { s.figuresSettled with
        bus := { s.bus with position := h, outstanding := some (h, (s.gate h).lock) }
        wires := { s.wires with gateBus := q.push (.poll h (s.gate h).lock) } }) ∧
    (s.cfg.commit = .loading →
      (∀ c ∈ [Instr.nothing g, .passed g, .abandoned g, .gateFault g code],
        exec c s = .next { s.figuresSettled with
          bus := { s.bus with outstanding := none }, wires := { s.wires with gateBus := port } }) ∧
      exec (.present g x) s = .next { s.figuresSettled with
        bus := { s.bus with outstanding := none }, wires := { s.wires with gateBus := q } })) ∧
  ∀ (s : State) (g : Nat) (lock : Bool) (x : Credential) (gates : List Gate), s.unconfigured = false →
    s.notices = [] → 1 ≤ g → s.bus.outstanding = some (g, lock) →
    gates = s.bus.gates.modify (g - 1) (fun e => { e with
      misses := 0, lock := e.lock && !lock, state := if e.state = .offline then .online else e.state }) →
    (∃ t, exec (.nothing g) s = .next t ∧ t.bus.gates = gates ∧ t.port = (s.onlineReport g).port ∧ t.board = s.board ∧
      t.store = s.store ∧
      t.load = s.figuresSettled.load ∧ t.trip = s.trip ∧ t.brake = s.brake ∧ t.door = s.door ∧ t.cfg = s.cfg ∧
      s.PollsOn t s.gatePort) ∧
    (∀ reason, s.failedVerdict g x = some reason →
      ∃ t, exec (.present g x) s = .next t ∧ t.bus.gates = gates ∧ t.port = (s.onlineReport g).port ∧ t.board = s.board ∧
        t.store = s.store ∧
        t.load = s.figuresSettled.load ∧ t.trip = s.trip ∧ t.brake = s.brake ∧ t.door = s.door ∧ t.cfg = s.cfg ∧
        (∃ v, v = s.gatePort.push (.verdict g (some reason) 0) ∧
          (t.wires.gateBus = v ∨ ∃ h l, t.wires.gateBus = v.push (.poll h l)) ∧ s.PollsOn t v)) ∧
    (s.failedVerdict g x = none →
      ∃ t y, exec (.present g x) s = .next t ∧ y = s.decisionOf g x ∧ y.credential = x ∧
        y.platform = (s.gate g).platform ∧ y.category = (s.store.class? (s.classInUse x)).category ∧
        t.port = (s.onlineReport g).port ∧
        t.bus.gates = gates.modify (g - 1) (fun e => { e with decision := some y }) ∧
        (g ≤ s.bus.gates.length → t.bus.outstanding = none ∧ t.bus.position = s.bus.position ∧
          t.wires = { s.wires with gateBus := s.gatePort }) ∧
        t.board = s.board ∧ t.store = s.store ∧ t.load = s.figuresSettled.load ∧ t.trip = s.trip ∧ t.brake = s.brake ∧
        t.door = s.door ∧ t.cfg = s.cfg)

/-- R156, R153, R148: GATE ENABLE: the rows that refuse it, in their order. GATE ENABLE of a gate with a record and without
an open decision, and a poll that is not answered. OFF, and the fifth consecutive miss of an ONLINE gate, end a grant in
flight at the gate by an unverified commit, which charges a token alone; without a grant there, no count changes. R43: the
live figures are recomputed as the grant ends. After a poll that is not answered the next address is polled, and none while a
decision is open or where every gate is DISABLED (that the poll is outstanding from then on, and with the lock flag of that
moment, is DEDUCED, assumption log 24, and DESIGN CHOICE, log 47). R171, R151: the replies and the GATE reports ENABLED,
DISABLED and OFFLINE, after SHUT where the window shuts (their order: DESIGN CHOICE, assumption log 16). R17: while the part
is UNCONFIGURED a poll without an answer changes no gate entry, and the next of the twelve addresses is polled. That no
figures are passing afterwards is DESIGN CHOICE, assumption log 44. -/
def Obligations.GateEnableAndPollTimeout : Prop :=
  (∀ (s : State) (seq b v : Byte) (body : ReplyBody), s.TakesRequests →
    (if s.cfg.active = none then some (.plain .state)
      else if b.toNat < 1 ∨ 12 < b.toNat ∨ 1 < v.toNat then some (.plain .range)
      else if (s.cfg.active.bind fun d => d.gate? b.toNat) = none then some (.plain .absent)
      else if (s.gate b.toNat).decision.isSome = true then some (.plain .busy)
      else none) = some body →
    exec (.gateEnable seq [b, v]) s = .next (s.replied 0x2C#8 seq body)) ∧
  (∀ (s : State) (g h : Nat) (lock : Bool), s.cfg.active = none → s.cfg.commit ≠ .loading → s.notices = [] →
    s.bus.outstanding = some (g, lock) → (∀ e ∈ s.bus.gates, e.decision = none) →
    h = (if s.bus.position < 12 then s.bus.position + 1 else 1) →
    exec .pollTimeout s = .next { s.figuresSettled with
      bus := { s.bus with position := h, outstanding := some (h, (s.gate h).lock) }
      wires := { s.wires with gateBus := s.wires.gateBus.push (.poll h (s.gate h).lock) } }) ∧
  ∀ (s : State) (seq b : Byte) (g : Nat) (d : LineDesc) (off gates : List Gate), s.cfg.active = some d → s.notices = [] →
    off = s.bus.gates.modify (g - 1) (fun e => { e with state := .disabled, lock := false }) →
    g = b.toNat → 1 ≤ g → g ≤ 12 →
    gates = s.bus.gates.modify (g - 1) (fun e => { e with
      missCount := min 255 (e.missCount + 1), misses := min 5 (e.misses + 1)
      state := if e.misses + 1 ≥ 5 ∧ e.state = .online then .offline else e.state }) →
    (s.TakesRequests → (d.gate? g).isSome = true → (s.gate g).decision = none → (s.gate g).state = .disabled →
      (∃ t, exec (.gateEnable seq [b, 1#8]) s = .next t ∧
        t.bus.gates = s.bus.gates.modify (g - 1) (fun e => { e with state := .offline, misses := 0 }) ∧
        t.port = ((s.replied 0x2C#8 seq (.done false)).report (.gate (.enabled g .offline))).port ∧
        t.board = s.board ∧ t.store = s.store ∧ t.trip = s.trip ∧ t.cfg = s.cfg) ∧
      exec (.gateEnable seq [b, 0#8]) s = .next (s.replied 0x2C#8 seq (.done true))) ∧
    (s.TakesRequests → (d.gate? g).isSome = true → (s.gate g).decision = none → (s.gate g).state ≠ .disabled →
      (s.grantAt g = none →
        ∃ t, exec (.gateEnable seq [b, 0#8]) s = .next t ∧ t.bus = { s.bus with gates := off } ∧ t.board = s.board ∧
          t.port = ((s.replied 0x2C#8 seq (.done false)).report (.gate (.disabled g .disabled))).port ∧
          t.store = s.store ∧ t.trip = s.trip ∧ t.cfg = s.cfg) ∧
      (∀ x w, s.grantAt g = some x → w = s.window x.car → s.ShutsAlone x.car →
        ∃ t, exec (.gateEnable seq [b, 0#8]) s = .next t ∧ t.bus = { s.bus with gates := off } ∧
          t.port = (((s.replied 0x2C#8 seq (.done false)).shutReport x.car { w with
            inflight := w.inflight - 1, pending := w.pending + 1, unverified := w.unverified + 1 }).report
              (.gate (.disabled g .disabled))).port ∧
          s.GrantGone t x { w with
            inflight := w.inflight - 1, pending := w.pending + 1, unverified := w.unverified + 1 } ∧
          (x.kind = .pass → t.store = s.store) ∧
          (x.kind = .token → t.store = { s.store with
            ring := ringAppend (ringCapacity s.store.plan) x.id s.store.ring }) ∧
          t.trip = s.trip ∧ t.brake = s.brake ∧ t.door = s.door ∧ t.cfg = s.cfg) ∧
      exec (.gateEnable seq [b, 1#8]) s = .next (s.replied 0x2C#8 seq (.done true))) ∧
    (∀ (lock : Bool) (offline : Report), s.bus.outstanding = some (g, lock) →
      offline = .gate (.offline g (s.gate g).platform ((s.gate g).platform.map s.station) .offline
        (min 255 ((s.gate g).missCount + 1))) →
      ((s.grantAt g = none ∨ (s.gate g).misses < 4 ∨ (s.gate g).state ≠ .online) →
        ∃ t, exec .pollTimeout s = .next t ∧ s.PollsOn t s.wires.gateBus ∧ t.bus.gates = gates ∧ t.board = s.board ∧ t.store = s.store ∧
          t.port = (if 4 ≤ (s.gate g).misses ∧ (s.gate g).state = .online then s.report offline else s).port ∧
          t.trip = s.trip ∧ t.cfg = s.cfg) ∧
      (∀ x w, s.grantAt g = some x → w = s.window x.car → s.ShutsAlone x.car → 4 ≤ (s.gate g).misses →
        (s.gate g).state = .online →
        ∃ t, exec .pollTimeout s = .next t ∧ s.PollsOn t s.wires.gateBus ∧ t.bus.gates = gates ∧
          t.port = ((s.shutReport x.car { w with
            inflight := w.inflight - 1, pending := w.pending + 1, unverified := w.unverified + 1 }).report offline).port ∧
          s.GrantGone t x { w with
            inflight := w.inflight - 1, pending := w.pending + 1, unverified := w.unverified + 1 } ∧
          (x.kind = .pass → t.store = s.store) ∧
          (x.kind = .token → t.store = { s.store with
            ring := ringAppend (ringCapacity s.store.plan) x.id s.store.ring }) ∧
          t.trip = s.trip ∧ t.brake = s.brake ∧ t.door = s.door ∧ t.cfg = s.cfg))

/-! ### The partner links -/

/-- R181, R110, R153, R172, R148, R17: a failed record is counted where its link counts it and does nothing else there; a gap
that ends a record fails it; a record of the gate bus with another address than the polled one, or that comes while no poll
is outstanding, is discarded and not counted; one that fails the outstanding poll is a protocol error and a miss, of which
the fifth in a row takes an ONLINE gate OFFLINE, with its report and the unverified commit of a grant in flight there (R148;
SHUT before OFFLINE: DESIGN CHOICE, assumption log 16), and the next address is polled; while the part is UNCONFIGURED it
changes no gate entry, and the next of the twelve addresses is polled (R17). A record that has been sent makes way for the
next one waiting. A record that the part forms on a free link is sent, and behind another it waits as the newest of its kind,
which replaces an older one: of each kind one record waits. 11.2: the bytes of the four records that the part sends (POLL,
VERDICT, CAR COMMAND, DRIVE REFERENCE), with their codes. The model's own choices in it: a gap timer that does not run does
not expire (DESIGN CHOICE, assumption log 15), a record that fails whole ends the outstanding poll, and the next poll is
outstanding from the event that forms it (DEDUCED, log 24), with the lock flag of that moment (DESIGN CHOICE, log 47), and
the order in which waiting records go out (DESIGN CHOICE, log 25). That no figures are passing afterwards is DESIGN CHOICE,
assumption log 44. -/
def Obligations.LinkFailuresAndSending : Prop :=
  ((∀ r, LinkRecord.bytes r = framed 0xC3#8 (itemBytes r.items)) ∧
    ([.outOfService, .gateBusy, .noCar, .classBlocked, .denied, .unknownPass, .expired, .noRides, .passback, .wrongDay,
      .spent, .full] : List RefuseReason).map (·.ctorIdx + 1) = [1, 2, 3, 4, 5, 6, 7, 8, 9, 10, 11, 12] ∧
    (∀ (bit : Bool → Nat) (g n : Nat) (b : Bool) (z : Int) (why : RefuseReason) (f : CarCommand),
      (∀ b, bit b = if b = true then 1 else 0) →
      LinkRecord.items (.poll g b) = [Item.u8 0x01, Item.u8 g, Item.u8 (bit b)] ∧
      LinkRecord.items (.verdict g none n) = [Item.u8 0x02, Item.u8 g, Item.u8 0, Item.u8 0, Item.u16 n] ∧
      LinkRecord.items (.verdict g (some why) n) =
        [Item.u8 0x02, Item.u8 g, Item.u8 1, Item.u8 (why.ctorIdx + 1), Item.u16 n] ∧
      LinkRecord.items (.carCommand f) = [Item.u8 0x20, Item.u8 ((f.authority.map (·.ctorIdx + 1)).getD 0),
        Item.u8 ((f.command.map (·.ctorIdx + 1)).getD 0), Item.u8 f.tag,
        Item.u8 (bit f.departing + 2 * bit f.outOfService + 4 * bit f.stopping + 8 * bit f.flag1 + 16 * bit f.flag2)] ∧
      LinkRecord.items (.driveReference z b) = [Item.u8 0x30, Item.i16 z, Item.u8 (bit b)])) ∧
  (∀ (s : State) (w : PartnerLink) (x : LinkRecord) (p q : LinkPort), p = s.wires.get w → q = (s.sendRecord w x).wires.get w →
    (p.sending = none → s.sendRecord w x = { s with wires := s.wires.set w { p with sending := some x } }) ∧
    (p.sending.isSome = true → s.sendRecord w x = { s with wires := s.wires.set w { p with
      waiting := (p.waiting.filter fun y => y.kindCode != x.kindCode) ++ [x] } }) ∧
    ((p.waiting.map fun y => y.kindCode).Nodup → (q.waiting.map fun y => y.kindCode).Nodup) ∧
    (p.sending.isSome = true → x ∈ q.waiting ∧ (∀ y ∈ q.waiting, y.kindCode = x.kindCode → y = x) ∧
      ∀ y ∈ p.waiting, y.kindCode ≠ x.kindCode → y ∈ q.waiting)) ∧
  (∀ (g n : Nat) (b : Bool) (z : Int) (why : Option RefuseReason) (f : CarCommand), (LinkRecord.poll g b).kindCode = 0x01 ∧
    (LinkRecord.verdict g why n).kindCode = 0x02 ∧ (LinkRecord.carCommand f).kindCode = 0x20 ∧
    (LinkRecord.driveReference z b).kindCode = 0x30) ∧
  ∀ (s : State) (w : PartnerLink),
    (∀ c, w = carWire c →
      exec (.invalidLinkRecord w) s =
        .next { s.recordTaken w with
          link := s.link.set c { s.link.get c with recordErrors := min 65535 ((s.link.get c).recordErrors + 1) } }) ∧
    (w = .driveLine → exec (.invalidLinkRecord w) s = .next (s.recordTaken w)) ∧
    (w = .gateBus → s.bus.outstanding = none → exec (.invalidLinkRecord w) s = .next (s.recordTaken w)) ∧
    (∀ (g h : Nat) (lock : Bool), w = .gateBus → s.cfg.active = none → s.cfg.commit ≠ .loading → s.notices = [] →
      s.bus.outstanding = some (g, lock) → (∀ e ∈ s.bus.gates, e.decision = none) →
      h = (if s.bus.position < 12 then s.bus.position + 1 else 1) →
      exec (.invalidLinkRecord w) s = .next { s.figuresSettled with
        bus := { s.bus with position := h, outstanding := some (h, (s.gate h).lock) }
        wires := { s.wires with gateBus := s.gatePort.push (.poll h (s.gate h).lock) } }) ∧
    (∀ (g : Nat) (lock : Bool) (gates : List Gate) (offline : Report), w = .gateBus → s.unconfigured = false →
      s.notices = [] → s.bus.outstanding = some (g, lock) → 1 ≤ g →
      gates = s.bus.gates.modify (g - 1) (fun e => { e with
        protocolErrors := min 255 (e.protocolErrors + 1), missCount := min 255 (e.missCount + 1)
        misses := min 5 (e.misses + 1)
        state := if e.misses + 1 ≥ 5 ∧ e.state = .online then .offline else e.state }) →
      offline = .gate (.offline g (s.gate g).platform ((s.gate g).platform.map s.station) .offline
        (min 255 ((s.gate g).missCount + 1))) →
      ((s.grantAt g = none ∨ (s.gate g).misses < 4 ∨ (s.gate g).state ≠ .online) →
        ∃ t, exec (.invalidLinkRecord w) s = .next t ∧ s.PollsOn t s.gatePort ∧ t.bus.gates = gates ∧
          t.board = s.board ∧ t.store = s.store ∧ t.trip = s.trip ∧ t.brake = s.brake ∧ t.door = s.door ∧ t.cfg = s.cfg ∧
          t.port = (if 4 ≤ (s.gate g).misses ∧ (s.gate g).state = .online then s.report offline else s).port) ∧
      (∀ x v, s.grantAt g = some x → s.ShutsAlone x.car → 4 ≤ (s.gate g).misses → (s.gate g).state = .online →
        v = { s.window x.car with
          inflight := (s.window x.car).inflight - 1, pending := (s.window x.car).pending + 1
          unverified := (s.window x.car).unverified + 1 } →
        ∃ t, exec (.invalidLinkRecord w) s = .next t ∧ s.PollsOn t s.gatePort ∧ t.bus.gates = gates ∧
          s.GrantGone t x v ∧ t.port = ((s.shutReport x.car v).report offline).port ∧
          (x.kind = .pass → t.store = s.store) ∧
          (x.kind = .token → t.store = { s.store with
            ring := ringAppend (ringCapacity s.store.plan) x.id s.store.ring }) ∧
          t.trip = s.trip ∧ t.brake = s.brake ∧ t.door = s.door ∧ t.cfg = s.cfg)) ∧
    (∀ (g : Nat) (lock : Bool) (kind a : Byte) (rest : List Byte), w = .gateBus → s.bus.outstanding = some (g, lock) →
      a.toNat ≠ g → (s.wires.get w).rx.phase = .hunt → rest.length ≤ 30 →
      feedLink w (framed 0xC3#8 (kind :: a :: rest)) s = .next (s.recordTaken w)) ∧
    ((s.wires.get w).rx.gap = true → exec (.linkGapTimeout w) s = exec (.invalidLinkRecord w) s) ∧
    ((s.wires.get w).rx.gap = false → exec (.linkGapTimeout w) s = .next s) ∧
    ((s.wires.get w).waiting = [] →
      exec (.linkRecordSent w) s =
        .next { s.figuresSettled with wires := s.wires.set w { s.wires.get w with sending := none } }) ∧
    (∀ r rs, (s.wires.get w).waiting = r :: rs →
      exec (.linkRecordSent w) s =
        .next { s.figuresSettled with wires := s.wires.set w { s.wires.get w with sending := some r, waiting := rs } })

end
end

