-- ==== Sys2Proof/Laws/State.lean ====
section
/-! SUPPORT. One lemma for each field and each block update of State, true by rfl: a block update changes its own field
and no other. -/

namespace Sys2Proof.Machine

open Sys2Proof

variable (s : State)

/-! ### modCfg -/

@[simp] theorem State.modCfg_cfg (f : ConfigStore → ConfigStore) : (s.modCfg f).cfg = f s.cfg := rfl
@[simp] theorem State.modCfg_pos (f : ConfigStore → ConfigStore) : (s.modCfg f).pos = s.pos := rfl
@[simp] theorem State.modCfg_load (f : ConfigStore → ConfigStore) : (s.modCfg f).load = s.load := rfl
@[simp] theorem State.modCfg_env (f : ConfigStore → ConfigStore) : (s.modCfg f).env = s.env := rfl
@[simp] theorem State.modCfg_trip (f : ConfigStore → ConfigStore) : (s.modCfg f).trip = s.trip := rfl
@[simp] theorem State.modCfg_brake (f : ConfigStore → ConfigStore) : (s.modCfg f).brake = s.brake := rfl
@[simp] theorem State.modCfg_link (f : ConfigStore → ConfigStore) : (s.modCfg f).link = s.link := rfl
@[simp] theorem State.modCfg_door (f : ConfigStore → ConfigStore) : (s.modCfg f).door = s.door := rfl
@[simp] theorem State.modCfg_board (f : ConfigStore → ConfigStore) : (s.modCfg f).board = s.board := rfl
@[simp] theorem State.modCfg_bus (f : ConfigStore → ConfigStore) : (s.modCfg f).bus = s.bus := rfl
@[simp] theorem State.modCfg_store (f : ConfigStore → ConfigStore) : (s.modCfg f).store = s.store := rfl
@[simp] theorem State.modCfg_port (f : ConfigStore → ConfigStore) : (s.modCfg f).port = s.port := rfl
@[simp] theorem State.modCfg_wires (f : ConfigStore → ConfigStore) : (s.modCfg f).wires = s.wires := rfl
@[simp] theorem State.modCfg_pending (f : ConfigStore → ConfigStore) : (s.modCfg f).pending = s.pending := rfl
@[simp] theorem State.modCfg_notices (f : ConfigStore → ConfigStore) : (s.modCfg f).notices = s.notices := rfl
@[simp] theorem State.modCfg_draws (f : ConfigStore → ConfigStore) : (s.modCfg f).draws = s.draws := rfl

/-! ### modPos -/

@[simp] theorem State.modPos_cfg (f : Monitor → Monitor) : (s.modPos f).cfg = s.cfg := rfl
@[simp] theorem State.modPos_pos (f : Monitor → Monitor) : (s.modPos f).pos = f s.pos := rfl
@[simp] theorem State.modPos_load (f : Monitor → Monitor) : (s.modPos f).load = s.load := rfl
@[simp] theorem State.modPos_env (f : Monitor → Monitor) : (s.modPos f).env = s.env := rfl
@[simp] theorem State.modPos_trip (f : Monitor → Monitor) : (s.modPos f).trip = s.trip := rfl
@[simp] theorem State.modPos_brake (f : Monitor → Monitor) : (s.modPos f).brake = s.brake := rfl
@[simp] theorem State.modPos_link (f : Monitor → Monitor) : (s.modPos f).link = s.link := rfl
@[simp] theorem State.modPos_door (f : Monitor → Monitor) : (s.modPos f).door = s.door := rfl
@[simp] theorem State.modPos_board (f : Monitor → Monitor) : (s.modPos f).board = s.board := rfl
@[simp] theorem State.modPos_bus (f : Monitor → Monitor) : (s.modPos f).bus = s.bus := rfl
@[simp] theorem State.modPos_store (f : Monitor → Monitor) : (s.modPos f).store = s.store := rfl
@[simp] theorem State.modPos_port (f : Monitor → Monitor) : (s.modPos f).port = s.port := rfl
@[simp] theorem State.modPos_wires (f : Monitor → Monitor) : (s.modPos f).wires = s.wires := rfl
@[simp] theorem State.modPos_pending (f : Monitor → Monitor) : (s.modPos f).pending = s.pending := rfl
@[simp] theorem State.modPos_notices (f : Monitor → Monitor) : (s.modPos f).notices = s.notices := rfl
@[simp] theorem State.modPos_draws (f : Monitor → Monitor) : (s.modPos f).draws = s.draws := rfl

/-! ### modLoad -/

@[simp] theorem State.modLoad_cfg (f : Estimator → Estimator) : (s.modLoad f).cfg = s.cfg := rfl
@[simp] theorem State.modLoad_pos (f : Estimator → Estimator) : (s.modLoad f).pos = s.pos := rfl
@[simp] theorem State.modLoad_load (f : Estimator → Estimator) : (s.modLoad f).load = f s.load := rfl
@[simp] theorem State.modLoad_env (f : Estimator → Estimator) : (s.modLoad f).env = s.env := rfl
@[simp] theorem State.modLoad_trip (f : Estimator → Estimator) : (s.modLoad f).trip = s.trip := rfl
@[simp] theorem State.modLoad_brake (f : Estimator → Estimator) : (s.modLoad f).brake = s.brake := rfl
@[simp] theorem State.modLoad_link (f : Estimator → Estimator) : (s.modLoad f).link = s.link := rfl
@[simp] theorem State.modLoad_door (f : Estimator → Estimator) : (s.modLoad f).door = s.door := rfl
@[simp] theorem State.modLoad_board (f : Estimator → Estimator) : (s.modLoad f).board = s.board := rfl
@[simp] theorem State.modLoad_bus (f : Estimator → Estimator) : (s.modLoad f).bus = s.bus := rfl
@[simp] theorem State.modLoad_store (f : Estimator → Estimator) : (s.modLoad f).store = s.store := rfl
@[simp] theorem State.modLoad_port (f : Estimator → Estimator) : (s.modLoad f).port = s.port := rfl
@[simp] theorem State.modLoad_wires (f : Estimator → Estimator) : (s.modLoad f).wires = s.wires := rfl
@[simp] theorem State.modLoad_pending (f : Estimator → Estimator) : (s.modLoad f).pending = s.pending := rfl
@[simp] theorem State.modLoad_notices (f : Estimator → Estimator) : (s.modLoad f).notices = s.notices := rfl
@[simp] theorem State.modLoad_draws (f : Estimator → Estimator) : (s.modLoad f).draws = s.draws := rfl

/-! ### modEnv -/

@[simp] theorem State.modEnv_cfg (f : Envelope → Envelope) : (s.modEnv f).cfg = s.cfg := rfl
@[simp] theorem State.modEnv_pos (f : Envelope → Envelope) : (s.modEnv f).pos = s.pos := rfl
@[simp] theorem State.modEnv_load (f : Envelope → Envelope) : (s.modEnv f).load = s.load := rfl
@[simp] theorem State.modEnv_env (f : Envelope → Envelope) : (s.modEnv f).env = f s.env := rfl
@[simp] theorem State.modEnv_trip (f : Envelope → Envelope) : (s.modEnv f).trip = s.trip := rfl
@[simp] theorem State.modEnv_brake (f : Envelope → Envelope) : (s.modEnv f).brake = s.brake := rfl
@[simp] theorem State.modEnv_link (f : Envelope → Envelope) : (s.modEnv f).link = s.link := rfl
@[simp] theorem State.modEnv_door (f : Envelope → Envelope) : (s.modEnv f).door = s.door := rfl
@[simp] theorem State.modEnv_board (f : Envelope → Envelope) : (s.modEnv f).board = s.board := rfl
@[simp] theorem State.modEnv_bus (f : Envelope → Envelope) : (s.modEnv f).bus = s.bus := rfl
@[simp] theorem State.modEnv_store (f : Envelope → Envelope) : (s.modEnv f).store = s.store := rfl
@[simp] theorem State.modEnv_port (f : Envelope → Envelope) : (s.modEnv f).port = s.port := rfl
@[simp] theorem State.modEnv_wires (f : Envelope → Envelope) : (s.modEnv f).wires = s.wires := rfl
@[simp] theorem State.modEnv_pending (f : Envelope → Envelope) : (s.modEnv f).pending = s.pending := rfl
@[simp] theorem State.modEnv_notices (f : Envelope → Envelope) : (s.modEnv f).notices = s.notices := rfl
@[simp] theorem State.modEnv_draws (f : Envelope → Envelope) : (s.modEnv f).draws = s.draws := rfl

/-! ### modTrip -/

@[simp] theorem State.modTrip_cfg (f : TripCtl → TripCtl) : (s.modTrip f).cfg = s.cfg := rfl
@[simp] theorem State.modTrip_pos (f : TripCtl → TripCtl) : (s.modTrip f).pos = s.pos := rfl
@[simp] theorem State.modTrip_load (f : TripCtl → TripCtl) : (s.modTrip f).load = s.load := rfl
@[simp] theorem State.modTrip_env (f : TripCtl → TripCtl) : (s.modTrip f).env = s.env := rfl
@[simp] theorem State.modTrip_trip (f : TripCtl → TripCtl) : (s.modTrip f).trip = f s.trip := rfl
@[simp] theorem State.modTrip_brake (f : TripCtl → TripCtl) : (s.modTrip f).brake = s.brake := rfl
@[simp] theorem State.modTrip_link (f : TripCtl → TripCtl) : (s.modTrip f).link = s.link := rfl
@[simp] theorem State.modTrip_door (f : TripCtl → TripCtl) : (s.modTrip f).door = s.door := rfl
@[simp] theorem State.modTrip_board (f : TripCtl → TripCtl) : (s.modTrip f).board = s.board := rfl
@[simp] theorem State.modTrip_bus (f : TripCtl → TripCtl) : (s.modTrip f).bus = s.bus := rfl
@[simp] theorem State.modTrip_store (f : TripCtl → TripCtl) : (s.modTrip f).store = s.store := rfl
@[simp] theorem State.modTrip_port (f : TripCtl → TripCtl) : (s.modTrip f).port = s.port := rfl
@[simp] theorem State.modTrip_wires (f : TripCtl → TripCtl) : (s.modTrip f).wires = s.wires := rfl
@[simp] theorem State.modTrip_pending (f : TripCtl → TripCtl) : (s.modTrip f).pending = s.pending := rfl
@[simp] theorem State.modTrip_notices (f : TripCtl → TripCtl) : (s.modTrip f).notices = s.notices := rfl
@[simp] theorem State.modTrip_draws (f : TripCtl → TripCtl) : (s.modTrip f).draws = s.draws := rfl

/-! ### modBrake -/

@[simp] theorem State.modBrake_cfg (f : BrakeSup → BrakeSup) : (s.modBrake f).cfg = s.cfg := rfl
@[simp] theorem State.modBrake_pos (f : BrakeSup → BrakeSup) : (s.modBrake f).pos = s.pos := rfl
@[simp] theorem State.modBrake_load (f : BrakeSup → BrakeSup) : (s.modBrake f).load = s.load := rfl
@[simp] theorem State.modBrake_env (f : BrakeSup → BrakeSup) : (s.modBrake f).env = s.env := rfl
@[simp] theorem State.modBrake_trip (f : BrakeSup → BrakeSup) : (s.modBrake f).trip = s.trip := rfl
@[simp] theorem State.modBrake_brake (f : BrakeSup → BrakeSup) : (s.modBrake f).brake = f s.brake := rfl
@[simp] theorem State.modBrake_link (f : BrakeSup → BrakeSup) : (s.modBrake f).link = s.link := rfl
@[simp] theorem State.modBrake_door (f : BrakeSup → BrakeSup) : (s.modBrake f).door = s.door := rfl
@[simp] theorem State.modBrake_board (f : BrakeSup → BrakeSup) : (s.modBrake f).board = s.board := rfl
@[simp] theorem State.modBrake_bus (f : BrakeSup → BrakeSup) : (s.modBrake f).bus = s.bus := rfl
@[simp] theorem State.modBrake_store (f : BrakeSup → BrakeSup) : (s.modBrake f).store = s.store := rfl
@[simp] theorem State.modBrake_port (f : BrakeSup → BrakeSup) : (s.modBrake f).port = s.port := rfl
@[simp] theorem State.modBrake_wires (f : BrakeSup → BrakeSup) : (s.modBrake f).wires = s.wires := rfl
@[simp] theorem State.modBrake_pending (f : BrakeSup → BrakeSup) : (s.modBrake f).pending = s.pending := rfl
@[simp] theorem State.modBrake_notices (f : BrakeSup → BrakeSup) : (s.modBrake f).notices = s.notices := rfl
@[simp] theorem State.modBrake_draws (f : BrakeSup → BrakeSup) : (s.modBrake f).draws = s.draws := rfl

/-! ### modBoard -/

@[simp] theorem State.modBoard_cfg (f : Boarding → Boarding) : (s.modBoard f).cfg = s.cfg := rfl
@[simp] theorem State.modBoard_pos (f : Boarding → Boarding) : (s.modBoard f).pos = s.pos := rfl
@[simp] theorem State.modBoard_load (f : Boarding → Boarding) : (s.modBoard f).load = s.load := rfl
@[simp] theorem State.modBoard_env (f : Boarding → Boarding) : (s.modBoard f).env = s.env := rfl
@[simp] theorem State.modBoard_trip (f : Boarding → Boarding) : (s.modBoard f).trip = s.trip := rfl
@[simp] theorem State.modBoard_brake (f : Boarding → Boarding) : (s.modBoard f).brake = s.brake := rfl
@[simp] theorem State.modBoard_link (f : Boarding → Boarding) : (s.modBoard f).link = s.link := rfl
@[simp] theorem State.modBoard_door (f : Boarding → Boarding) : (s.modBoard f).door = s.door := rfl
@[simp] theorem State.modBoard_board (f : Boarding → Boarding) : (s.modBoard f).board = f s.board := rfl
@[simp] theorem State.modBoard_bus (f : Boarding → Boarding) : (s.modBoard f).bus = s.bus := rfl
@[simp] theorem State.modBoard_store (f : Boarding → Boarding) : (s.modBoard f).store = s.store := rfl
@[simp] theorem State.modBoard_port (f : Boarding → Boarding) : (s.modBoard f).port = s.port := rfl
@[simp] theorem State.modBoard_wires (f : Boarding → Boarding) : (s.modBoard f).wires = s.wires := rfl
@[simp] theorem State.modBoard_pending (f : Boarding → Boarding) : (s.modBoard f).pending = s.pending := rfl
@[simp] theorem State.modBoard_notices (f : Boarding → Boarding) : (s.modBoard f).notices = s.notices := rfl
@[simp] theorem State.modBoard_draws (f : Boarding → Boarding) : (s.modBoard f).draws = s.draws := rfl

/-! ### modBus -/

@[simp] theorem State.modBus_cfg (f : GateBus → GateBus) : (s.modBus f).cfg = s.cfg := rfl
@[simp] theorem State.modBus_pos (f : GateBus → GateBus) : (s.modBus f).pos = s.pos := rfl
@[simp] theorem State.modBus_load (f : GateBus → GateBus) : (s.modBus f).load = s.load := rfl
@[simp] theorem State.modBus_env (f : GateBus → GateBus) : (s.modBus f).env = s.env := rfl
@[simp] theorem State.modBus_trip (f : GateBus → GateBus) : (s.modBus f).trip = s.trip := rfl
@[simp] theorem State.modBus_brake (f : GateBus → GateBus) : (s.modBus f).brake = s.brake := rfl
@[simp] theorem State.modBus_link (f : GateBus → GateBus) : (s.modBus f).link = s.link := rfl
@[simp] theorem State.modBus_door (f : GateBus → GateBus) : (s.modBus f).door = s.door := rfl
@[simp] theorem State.modBus_board (f : GateBus → GateBus) : (s.modBus f).board = s.board := rfl
@[simp] theorem State.modBus_bus (f : GateBus → GateBus) : (s.modBus f).bus = f s.bus := rfl
@[simp] theorem State.modBus_store (f : GateBus → GateBus) : (s.modBus f).store = s.store := rfl
@[simp] theorem State.modBus_port (f : GateBus → GateBus) : (s.modBus f).port = s.port := rfl
@[simp] theorem State.modBus_wires (f : GateBus → GateBus) : (s.modBus f).wires = s.wires := rfl
@[simp] theorem State.modBus_pending (f : GateBus → GateBus) : (s.modBus f).pending = s.pending := rfl
@[simp] theorem State.modBus_notices (f : GateBus → GateBus) : (s.modBus f).notices = s.notices := rfl
@[simp] theorem State.modBus_draws (f : GateBus → GateBus) : (s.modBus f).draws = s.draws := rfl

/-! ### modStore -/

@[simp] theorem State.modStore_cfg (f : CredStore → CredStore) : (s.modStore f).cfg = s.cfg := rfl
@[simp] theorem State.modStore_pos (f : CredStore → CredStore) : (s.modStore f).pos = s.pos := rfl
@[simp] theorem State.modStore_load (f : CredStore → CredStore) : (s.modStore f).load = s.load := rfl
@[simp] theorem State.modStore_env (f : CredStore → CredStore) : (s.modStore f).env = s.env := rfl
@[simp] theorem State.modStore_trip (f : CredStore → CredStore) : (s.modStore f).trip = s.trip := rfl
@[simp] theorem State.modStore_brake (f : CredStore → CredStore) : (s.modStore f).brake = s.brake := rfl
@[simp] theorem State.modStore_link (f : CredStore → CredStore) : (s.modStore f).link = s.link := rfl
@[simp] theorem State.modStore_door (f : CredStore → CredStore) : (s.modStore f).door = s.door := rfl
@[simp] theorem State.modStore_board (f : CredStore → CredStore) : (s.modStore f).board = s.board := rfl
@[simp] theorem State.modStore_bus (f : CredStore → CredStore) : (s.modStore f).bus = s.bus := rfl
@[simp] theorem State.modStore_store (f : CredStore → CredStore) : (s.modStore f).store = f s.store := rfl
@[simp] theorem State.modStore_port (f : CredStore → CredStore) : (s.modStore f).port = s.port := rfl
@[simp] theorem State.modStore_wires (f : CredStore → CredStore) : (s.modStore f).wires = s.wires := rfl
@[simp] theorem State.modStore_pending (f : CredStore → CredStore) : (s.modStore f).pending = s.pending := rfl
@[simp] theorem State.modStore_notices (f : CredStore → CredStore) : (s.modStore f).notices = s.notices := rfl
@[simp] theorem State.modStore_draws (f : CredStore → CredStore) : (s.modStore f).draws = s.draws := rfl

/-! ### modPort -/

@[simp] theorem State.modPort_cfg (f : Port → Port) : (s.modPort f).cfg = s.cfg := rfl
@[simp] theorem State.modPort_pos (f : Port → Port) : (s.modPort f).pos = s.pos := rfl
@[simp] theorem State.modPort_load (f : Port → Port) : (s.modPort f).load = s.load := rfl
@[simp] theorem State.modPort_env (f : Port → Port) : (s.modPort f).env = s.env := rfl
@[simp] theorem State.modPort_trip (f : Port → Port) : (s.modPort f).trip = s.trip := rfl
@[simp] theorem State.modPort_brake (f : Port → Port) : (s.modPort f).brake = s.brake := rfl
@[simp] theorem State.modPort_link (f : Port → Port) : (s.modPort f).link = s.link := rfl
@[simp] theorem State.modPort_door (f : Port → Port) : (s.modPort f).door = s.door := rfl
@[simp] theorem State.modPort_board (f : Port → Port) : (s.modPort f).board = s.board := rfl
@[simp] theorem State.modPort_bus (f : Port → Port) : (s.modPort f).bus = s.bus := rfl
@[simp] theorem State.modPort_store (f : Port → Port) : (s.modPort f).store = s.store := rfl
@[simp] theorem State.modPort_port (f : Port → Port) : (s.modPort f).port = f s.port := rfl
@[simp] theorem State.modPort_wires (f : Port → Port) : (s.modPort f).wires = s.wires := rfl
@[simp] theorem State.modPort_pending (f : Port → Port) : (s.modPort f).pending = s.pending := rfl
@[simp] theorem State.modPort_notices (f : Port → Port) : (s.modPort f).notices = s.notices := rfl
@[simp] theorem State.modPort_draws (f : Port → Port) : (s.modPort f).draws = s.draws := rfl

/-! ### modWires -/

@[simp] theorem State.modWires_cfg (f : Links → Links) : (s.modWires f).cfg = s.cfg := rfl
@[simp] theorem State.modWires_pos (f : Links → Links) : (s.modWires f).pos = s.pos := rfl
@[simp] theorem State.modWires_load (f : Links → Links) : (s.modWires f).load = s.load := rfl
@[simp] theorem State.modWires_env (f : Links → Links) : (s.modWires f).env = s.env := rfl
@[simp] theorem State.modWires_trip (f : Links → Links) : (s.modWires f).trip = s.trip := rfl
@[simp] theorem State.modWires_brake (f : Links → Links) : (s.modWires f).brake = s.brake := rfl
@[simp] theorem State.modWires_link (f : Links → Links) : (s.modWires f).link = s.link := rfl
@[simp] theorem State.modWires_door (f : Links → Links) : (s.modWires f).door = s.door := rfl
@[simp] theorem State.modWires_board (f : Links → Links) : (s.modWires f).board = s.board := rfl
@[simp] theorem State.modWires_bus (f : Links → Links) : (s.modWires f).bus = s.bus := rfl
@[simp] theorem State.modWires_store (f : Links → Links) : (s.modWires f).store = s.store := rfl
@[simp] theorem State.modWires_port (f : Links → Links) : (s.modWires f).port = s.port := rfl
@[simp] theorem State.modWires_wires (f : Links → Links) : (s.modWires f).wires = f s.wires := rfl
@[simp] theorem State.modWires_pending (f : Links → Links) : (s.modWires f).pending = s.pending := rfl
@[simp] theorem State.modWires_notices (f : Links → Links) : (s.modWires f).notices = s.notices := rfl
@[simp] theorem State.modWires_draws (f : Links → Links) : (s.modWires f).draws = s.draws := rfl

/-! ### modLink -/

@[simp] theorem State.modLink_cfg (c : Car) (f : CarLink → CarLink) : (s.modLink c f).cfg = s.cfg := rfl
@[simp] theorem State.modLink_pos (c : Car) (f : CarLink → CarLink) : (s.modLink c f).pos = s.pos := rfl
@[simp] theorem State.modLink_load (c : Car) (f : CarLink → CarLink) : (s.modLink c f).load = s.load := rfl
@[simp] theorem State.modLink_env (c : Car) (f : CarLink → CarLink) : (s.modLink c f).env = s.env := rfl
@[simp] theorem State.modLink_trip (c : Car) (f : CarLink → CarLink) : (s.modLink c f).trip = s.trip := rfl
@[simp] theorem State.modLink_brake (c : Car) (f : CarLink → CarLink) : (s.modLink c f).brake = s.brake := rfl
@[simp] theorem State.modLink_door (c : Car) (f : CarLink → CarLink) : (s.modLink c f).door = s.door := rfl
@[simp] theorem State.modLink_board (c : Car) (f : CarLink → CarLink) : (s.modLink c f).board = s.board := rfl
@[simp] theorem State.modLink_bus (c : Car) (f : CarLink → CarLink) : (s.modLink c f).bus = s.bus := rfl
@[simp] theorem State.modLink_store (c : Car) (f : CarLink → CarLink) : (s.modLink c f).store = s.store := rfl
@[simp] theorem State.modLink_port (c : Car) (f : CarLink → CarLink) : (s.modLink c f).port = s.port := rfl
@[simp] theorem State.modLink_wires (c : Car) (f : CarLink → CarLink) : (s.modLink c f).wires = s.wires := rfl
@[simp] theorem State.modLink_pending (c : Car) (f : CarLink → CarLink) : (s.modLink c f).pending = s.pending := rfl
@[simp] theorem State.modLink_notices (c : Car) (f : CarLink → CarLink) : (s.modLink c f).notices = s.notices := rfl
@[simp] theorem State.modLink_draws (c : Car) (f : CarLink → CarLink) : (s.modLink c f).draws = s.draws := rfl

@[simp] theorem State.modLink_get (c : Car) (f : CarLink → CarLink) : (s.modLink c f).link.get c = f (s.link.get c) := by
  cases c <;> rfl

@[simp] theorem State.modLink_get_other (c : Car) (f : CarLink → CarLink) :
    (s.modLink c f).link.get (otherCar c) = s.link.get (otherCar c) := by
  cases c <;> rfl

/-! ### modDoor -/

@[simp] theorem State.modDoor_cfg (c : Car) (f : DoorCtl → DoorCtl) : (s.modDoor c f).cfg = s.cfg := rfl
@[simp] theorem State.modDoor_pos (c : Car) (f : DoorCtl → DoorCtl) : (s.modDoor c f).pos = s.pos := rfl
@[simp] theorem State.modDoor_load (c : Car) (f : DoorCtl → DoorCtl) : (s.modDoor c f).load = s.load := rfl
@[simp] theorem State.modDoor_env (c : Car) (f : DoorCtl → DoorCtl) : (s.modDoor c f).env = s.env := rfl
@[simp] theorem State.modDoor_trip (c : Car) (f : DoorCtl → DoorCtl) : (s.modDoor c f).trip = s.trip := rfl
@[simp] theorem State.modDoor_brake (c : Car) (f : DoorCtl → DoorCtl) : (s.modDoor c f).brake = s.brake := rfl
@[simp] theorem State.modDoor_link (c : Car) (f : DoorCtl → DoorCtl) : (s.modDoor c f).link = s.link := rfl
@[simp] theorem State.modDoor_board (c : Car) (f : DoorCtl → DoorCtl) : (s.modDoor c f).board = s.board := rfl
@[simp] theorem State.modDoor_bus (c : Car) (f : DoorCtl → DoorCtl) : (s.modDoor c f).bus = s.bus := rfl
@[simp] theorem State.modDoor_store (c : Car) (f : DoorCtl → DoorCtl) : (s.modDoor c f).store = s.store := rfl
@[simp] theorem State.modDoor_port (c : Car) (f : DoorCtl → DoorCtl) : (s.modDoor c f).port = s.port := rfl
@[simp] theorem State.modDoor_wires (c : Car) (f : DoorCtl → DoorCtl) : (s.modDoor c f).wires = s.wires := rfl
@[simp] theorem State.modDoor_pending (c : Car) (f : DoorCtl → DoorCtl) : (s.modDoor c f).pending = s.pending := rfl
@[simp] theorem State.modDoor_notices (c : Car) (f : DoorCtl → DoorCtl) : (s.modDoor c f).notices = s.notices := rfl
@[simp] theorem State.modDoor_draws (c : Car) (f : DoorCtl → DoorCtl) : (s.modDoor c f).draws = s.draws := rfl

@[simp] theorem State.modDoor_get (c : Car) (f : DoorCtl → DoorCtl) : (s.modDoor c f).door.get c = f (s.door.get c) := by
  cases c <;> rfl

@[simp] theorem State.modDoor_get_other (c : Car) (f : DoorCtl → DoorCtl) :
    (s.modDoor c f).door.get (otherCar c) = s.door.get (otherCar c) := by
  cases c <;> rfl

/-! ### send, report, reply -/

@[simp] theorem State.send_cfg (n : Notice) : (s.send n).cfg = s.cfg := rfl
@[simp] theorem State.send_pos (n : Notice) : (s.send n).pos = s.pos := rfl
@[simp] theorem State.send_load (n : Notice) : (s.send n).load = s.load := rfl
@[simp] theorem State.send_env (n : Notice) : (s.send n).env = s.env := rfl
@[simp] theorem State.send_trip (n : Notice) : (s.send n).trip = s.trip := rfl
@[simp] theorem State.send_brake (n : Notice) : (s.send n).brake = s.brake := rfl
@[simp] theorem State.send_link (n : Notice) : (s.send n).link = s.link := rfl
@[simp] theorem State.send_door (n : Notice) : (s.send n).door = s.door := rfl
@[simp] theorem State.send_board (n : Notice) : (s.send n).board = s.board := rfl
@[simp] theorem State.send_bus (n : Notice) : (s.send n).bus = s.bus := rfl
@[simp] theorem State.send_store (n : Notice) : (s.send n).store = s.store := rfl
@[simp] theorem State.send_port (n : Notice) : (s.send n).port = s.port := rfl
@[simp] theorem State.send_wires (n : Notice) : (s.send n).wires = s.wires := rfl
@[simp] theorem State.send_pending (n : Notice) : (s.send n).pending = s.pending := rfl
@[simp] theorem State.send_notices (n : Notice) : (s.send n).notices = s.notices ++ [n] := rfl
@[simp] theorem State.send_draws (n : Notice) : (s.send n).draws = s.draws := rfl

@[simp] theorem State.report_cfg (r : Report) : (s.report r).cfg = s.cfg := rfl
@[simp] theorem State.report_pos (r : Report) : (s.report r).pos = s.pos := rfl
@[simp] theorem State.report_load (r : Report) : (s.report r).load = s.load := rfl
@[simp] theorem State.report_env (r : Report) : (s.report r).env = s.env := rfl
@[simp] theorem State.report_trip (r : Report) : (s.report r).trip = s.trip := rfl
@[simp] theorem State.report_brake (r : Report) : (s.report r).brake = s.brake := rfl
@[simp] theorem State.report_link (r : Report) : (s.report r).link = s.link := rfl
@[simp] theorem State.report_door (r : Report) : (s.report r).door = s.door := rfl
@[simp] theorem State.report_board (r : Report) : (s.report r).board = s.board := rfl
@[simp] theorem State.report_bus (r : Report) : (s.report r).bus = s.bus := rfl
@[simp] theorem State.report_store (r : Report) : (s.report r).store = s.store := rfl
@[simp] theorem State.report_port (r : Report) : (s.report r).port = s.port.queueReport r := rfl
@[simp] theorem State.report_wires (r : Report) : (s.report r).wires = s.wires := rfl
@[simp] theorem State.report_pending (r : Report) : (s.report r).pending = s.pending := rfl
@[simp] theorem State.report_notices (r : Report) : (s.report r).notices = s.notices := rfl
@[simp] theorem State.report_draws (r : Report) : (s.report r).draws = s.draws := rfl

@[simp] theorem State.reply_cfg (r : Reply) : (s.reply r).cfg = s.cfg := rfl
@[simp] theorem State.reply_pos (r : Reply) : (s.reply r).pos = s.pos := rfl
@[simp] theorem State.reply_load (r : Reply) : (s.reply r).load = s.load := rfl
@[simp] theorem State.reply_env (r : Reply) : (s.reply r).env = s.env := rfl
@[simp] theorem State.reply_trip (r : Reply) : (s.reply r).trip = s.trip := rfl
@[simp] theorem State.reply_brake (r : Reply) : (s.reply r).brake = s.brake := rfl
@[simp] theorem State.reply_link (r : Reply) : (s.reply r).link = s.link := rfl
@[simp] theorem State.reply_door (r : Reply) : (s.reply r).door = s.door := rfl
@[simp] theorem State.reply_board (r : Reply) : (s.reply r).board = s.board := rfl
@[simp] theorem State.reply_bus (r : Reply) : (s.reply r).bus = s.bus := rfl
@[simp] theorem State.reply_store (r : Reply) : (s.reply r).store = s.store := rfl
@[simp] theorem State.reply_port (r : Reply) : (s.reply r).port = s.port.queueReply r := rfl
@[simp] theorem State.reply_wires (r : Reply) : (s.reply r).wires = s.wires := rfl
@[simp] theorem State.reply_pending (r : Reply) : (s.reply r).pending = s.pending := rfl
@[simp] theorem State.reply_notices (r : Reply) : (s.reply r).notices = s.notices := rfl
@[simp] theorem State.reply_draws (r : Reply) : (s.reply r).draws = s.draws := rfl

/-! ### figuresSettled -/

@[simp] theorem State.figuresSettled_load : s.figuresSettled.load = { s.load with passing := none } := rfl
@[simp] theorem State.figuresSettled_cfg : s.figuresSettled.cfg = s.cfg := rfl
@[simp] theorem State.figuresSettled_pos : s.figuresSettled.pos = s.pos := rfl
@[simp] theorem State.figuresSettled_env : s.figuresSettled.env = s.env := rfl
@[simp] theorem State.figuresSettled_trip : s.figuresSettled.trip = s.trip := rfl
@[simp] theorem State.figuresSettled_brake : s.figuresSettled.brake = s.brake := rfl
@[simp] theorem State.figuresSettled_link : s.figuresSettled.link = s.link := rfl
@[simp] theorem State.figuresSettled_door : s.figuresSettled.door = s.door := rfl
@[simp] theorem State.figuresSettled_board : s.figuresSettled.board = s.board := rfl
@[simp] theorem State.figuresSettled_bus : s.figuresSettled.bus = s.bus := rfl
@[simp] theorem State.figuresSettled_store : s.figuresSettled.store = s.store := rfl
@[simp] theorem State.figuresSettled_port : s.figuresSettled.port = s.port := rfl
@[simp] theorem State.figuresSettled_wires : s.figuresSettled.wires = s.wires := rfl
@[simp] theorem State.figuresSettled_pending : s.figuresSettled.pending = s.pending := rfl
@[simp] theorem State.figuresSettled_notices : s.figuresSettled.notices = s.notices := rfl
@[simp] theorem State.figuresSettled_draws : s.figuresSettled.draws = s.draws := rfl
@[simp] theorem State.figuresSettled_idem : s.figuresSettled.figuresSettled = s.figuresSettled := rfl

/-! ### Pairs -/

@[simp] theorem Pair.get_set {α : Type} (p : Pair α) (c : Car) (v : α) : (p.set c v).get c = v := by
  cases c <;> rfl

@[simp] theorem Pair.get_set_other {α : Type} (p : Pair α) (c : Car) (v : α) :
    (p.set c v).get (otherCar c) = p.get (otherCar c) := by
  cases c <;> rfl

end Sys2Proof.Machine
end

