-- ==== Sys2Proof/Laws/Closed.lean ====
section
/-! SUPPORT. What a property of the state must survive so that every command keeps it: one hypothesis for each kind of
primitive change that the commands are made of. The files Laws/Keep*.lean prove, for each operation and each command, that
such a property is kept, so that no invariant unfolds a command again. -/

namespace Sys2Proof.Laws

open Sys2Proof Sys2Proof.Machine

/-- Two boarding windows that agree in what the passage counts of R150 and the shutting of R139 read. -/
def sameCounts (v w : Window) : Prop :=
  v.state = w.state ∧ v.inflight = w.inflight ∧ v.granted = w.granted ∧ v.committed = w.committed ∧
    v.released = w.released ∧ v.unverified = w.unverified

/-- A change of the boarding controller that leaves the grants and the counts of both windows as they are. -/
def keepsCounts (f : Boarding → Boarding) : Prop :=
  ∀ b, (f b).grants = b.grants ∧ ∀ c, sameCounts ((f b).windows.get c) (b.windows.get c)

/-- A change of the brake supervisor that leaves both brakes, DE, its state and its capture list as they are. -/
def keepsOutputs (f : BrakeSup → BrakeSup) : Prop :=
  ∀ b, (f b).sb = b.sb ∧ (f b).eb = b.eb ∧ (f b).de = b.de ∧ (f b).state = b.state ∧ (f b).captures = b.captures

/-- A change of a car link controller that leaves all but its command slot, its tag and the record shown as it is. -/
def keepsLink (f : CarLink → CarLink) : Prop :=
  ∀ l, f l = { l with slot := (f l).slot, tag := (f l).tag, shown := (f l).shown }

/-- A change of a door release controller that leaves its state, its authority and the side reports as they are. -/
def keepsDoor (f : DoorCtl → DoorCtl) : Prop :=
  ∀ d, f d = { f d with state := d.state, authority := d.authority, left := d.left, right := d.right }

/-- A change of the envelope calculator that leaves its latest result as it is, and sets v_perm to 0 or leaves it and the class
cap in force as they are. -/
def keepsPermitted (f : Envelope → Envelope) : Prop :=
  ∀ e, (f e).result = e.result ∧ ((f e).vPerm = 0 ∨ (f e).vPerm = e.vPerm ∧ (f e).cap = e.cap)

/-- A property of the state that each primitive change inside the blocks keeps, but for the changes of a door state. -/
structure Base (R : State → Prop) : Prop where
  load : ∀ s f, R s → R (s.modLoad f)
  env : ∀ s f, keepsPermitted f → R s → R (s.modEnv f)
  bus : ∀ s f, R s → R (s.modBus f)
  wires : ∀ s f, R s → R (s.modWires f)
  notices : ∀ s (n : List Notice), R s → R { s with notices := n }
  draws : ∀ s n, R s → R { s with draws := n }
  trip : ∀ s f, (∀ t : TripCtl, (f t).state = t.state ∧ (f t).vRef = t.vRef) → R s → R (s.modTrip f)
  enter : ∀ s st, R s → R (s.enterTrip st)
  reference : ∀ s v, s.trip.state.hauling = true → R s → R (s.modTrip fun t => { t with vRef := v })
  link : ∀ s c f, keepsLink f → R s → R (s.modLink c f)
  door : ∀ s c f, keepsDoor f → R s → R (s.modDoor c f)
  hold : ∀ s, R s → R (s.modBrake BrakeSup.hold)
  drop : ∀ s, R s → R s.permissionTest
  driveRequest : ∀ s, R s → R s.driveRequest
  liftRequest : ∀ s, R s → R s.liftRequest
  board : ∀ s f, keepsCounts f → R s → R (s.modBoard f)
  closing : ∀ s c r, (s.window c).state = .opened → R s →
    R (s.modWindow c fun w => { w with state := .closing, reason := r })
  shut : ∀ s c, (s.window c).inflight = 0 → R s →
    R (s.modWindow c fun w =>
      { w with state := .shut, platform := none, pending := 0, inflight := 0, reason := none })
  opened : ∀ s c p n k, (s.window c).state = .shut → R s →
    R (s.modWindow c fun _ =>
      { state := .opened, platform := p, pending := n, inflight := 0, reason := none, granted := 0,
        committed := 0, released := 0, unverified := 0, carryIn := k, deferred := false })
  granted : ∀ s (g : Grant), s.grantAt g.gate = none → (s.window g.car).state ≠ .shut → R s →
    R ((s.modBoard fun b => { b with grants := insertGrant g b.grants }).modWindow g.car fun w =>
      { w with inflight := w.inflight + 1, granted := w.granted + 1 })
  ended : ∀ s (g : Grant) how, g ∈ s.board.grants → R s →
    R ((s.modBoard fun b => { b with grants := b.grants.filter fun x => x.gate != g.gate }).modWindow g.car fun w =>
      w.endGrant how)
  charge : ∀ s k id p b, R s → R (s.modStore fun c => c.charge k id p b)
  report : ∀ s r, R s → R (s.report r)

/-- A property that also each change of a door state keeps: every change of doors, windows and trip keeps it. -/
structure Inner (R : State → Prop) : Prop extends Base R where
  setDoor : ∀ s c a st e, R s → R (s.setDoor c a st e)

/-- A property that also the taking of a cause by the brake supervisor keeps: everything that follows on an event within
the same step keeps it, up to the taking of every internal notice. -/
structure Caused (R : State → Prop) : Prop extends Inner R where
  brake : ∀ s f, keepsOutputs f → R s → R (s.modBrake f)
  capture : ∀ s c n x, R s → R (s.modBrake fun b => b.capture c n x)
  service : ∀ s, s.brake.latch = false → R s → R (s.modBrake BrakeSup.enterService)
  emergency : ∀ s, R s → R (s.modBrake BrakeSup.enterEmergency)
  warn : ∀ s, s.brake.state = .normal → R s → R (s.modBrake fun b => { b with state := .warning })
  calm : ∀ s, s.brake.state = .warning → R s → R (s.modBrake fun b => { b with state := .normal })
  applyEb : ∀ s, R s → R (s.modBrake BrakeSup.applyEb)

/-- A property of the state that every primitive change keeps. -/
structure Closed (R : State → Prop) : Prop extends Caused R where
  cfg : ∀ s f, (∀ c : ConfigStore, (f c).held = c.held) → R s → R (s.modCfg f)
  beginWrite : ∀ s seq, s.port.replies.length ≤ 4 → R s → R (s.modCfg fun c => c.beginWrite seq)
  release : ∀ s r, s.cfg.held.isSome → R s → R ((s.modCfg fun c => { c with held := none }).reply r)
  pos : ∀ s f, R s → R (s.modPos f)
  calculator : ∀ s, R s → R s.envelopeView
  sides : ∀ s c f, (∀ d : DoorCtl, (f d).state = d.state) → R s → R (s.modDoor c f)
  line : ∀ s i f, (∀ b : BrakeLine, (f b).command = b.command) → R s → R (s.modBrake fun b => b.modLine i f)
  linkData : ∀ s c f, (∀ l : CarLink, (f l).live = l.live) → R s → R (s.modLink c f)
  linkLive : ∀ s c f, (∀ l : CarLink, (f l).live = true) → R s → R (s.modLink c f)
  resetBrake : ∀ s n, R s → R (s.modBrake fun b => b.reset_ n)
  clearFaults : ∀ s, R s → R (s.modBrake fun b => { b with captures := [], overflow := false })
  beginClear : ∀ s n, R s → R (s.modStore fun c => c.beginClear n)
  classes : ∀ s l, R s → R (s.modStore fun c => { c with classes := l })
  passLoad : ∀ s r, ((s.store.pass? r.id).isSome ∨ s.store.passes.length < passCapacity s.store.plan) → R s →
    R (s.modStore fun c => c.load r)
  passDelete : ∀ s id, R s → R (s.modStore fun c => { c with passes := c.passes.filter fun p => p.id != id })
  cursor : ∀ s n, R s → R (s.modStore fun c => { c with cursor := n })
  cursorSet : ∀ s n d, R s → R (s.modStore fun c => { c with cursor := n, cursorDir := d })
  denyAdd : ∀ s e, e ∉ s.store.deny → s.store.deny.length < Config.denySize → R s →
    R (s.modStore fun c => { c with deny := c.deny ++ [e] })
  denyRemove : ∀ s e, R s → R (s.modStore fun c => { c with deny := c.deny.erase e })
  flush : ∀ s, R s → R (s.modStore fun c => { c with ring := [] })
  day : ∀ s n, n ≤ 65535 → R s → R (s.modStore fun c => { c with day := n })
  clock : ∀ s n, n ≤ 86399 → R s → R (s.modStore fun c => { c with clock := n })
  tick : ∀ s, R s → R (s.modStore CredStore.tick)
  endClear : ∀ s, R s → R (s.modStore fun c => { c with state := .ready, clearRunning := false })
  port : ∀ s f, (∀ p : Port, (f p).replies = p.replies ∧ (f p).reports = p.reports) → R s → R (s.modPort f)
  reply : ∀ s r, s.port.replies.length < 4 → R s → R (s.reply r)
  sent : ∀ s, R s → R (s.modPort fun p => Port.start { p with sending := none })
  reset : ∀ s, R s → R s.resetPart
  lose : ∀ s c, R s → R (((s.modLink c CarLink.lose).doorLost c).permissionTest)
  loseRun : ∀ s c x, R s → R ((((s.modLink c CarLink.lose).raise x).doorLost c).permissionTest)

/-- A property that holds in both branches of a choice holds of the choice. -/
theorem keep_ite {R : State → Prop} {p : Prop} [Decidable p] {s t : State} (ht : p → R s) (hf : ¬p → R t) :
    R (if p then s else t) := by
  split
  · exact ht ‹_›
  · exact hf ‹_›

end Sys2Proof.Laws
end

