-- ==== Sys2Proof/Laws/KeepOps.lean ====
section
/-! SUPPORT. The shared operations keep every property that its primitive changes keep (Laws/Closed.lean): queues, links,
load, envelope, windows, doors. -/

namespace Sys2Proof.Laws

open Sys2Proof Sys2Proof.Machine

variable {R : State → Prop} {s : State}

theorem Base.send (h : Base R) (hs : R s) (n : Notice) : R (s.send n) := h.notices s _ hs

theorem Base.afterPick (h : Base R) (hs : R s) (n : Nat) : R (s.afterPick n) := by
  unfold State.afterPick
  exact keep_ite (fun _ => hs) (fun _ => h.draws _ _ hs)

theorem Base.raise (h : Base R) (hs : R s) (c : Cause) : R (s.raise c) := h.send hs _

theorem Base.raiseAll (h : Base R) (hs : R s) (cs : List Cause) : R (s.raiseAll cs) := by
  unfold State.raiseAll
  induction cs generalizing s with
  | nil => exact hs
  | cons c cs ih => exact ih (h.send hs _)

theorem Base.window (h : Base R) (hs : R s) (c : Car) (f : Window → Window) (hf : ∀ w, sameCounts (f w) w) :
    R (s.modWindow c f) := by
  refine h.board _ _ (fun b => ⟨rfl, fun d => ?_⟩) hs
  cases c <;> cases d <;> first | exact hf _ | exact ⟨rfl, rfl, rfl, rfl, rfl, rfl⟩

theorem Base.modWire (h : Base R) (hs : R s) (w : PartnerLink) (f : LinkPort → LinkPort) : R (s.modWire w f) := by
  unfold State.modWire
  repeat' (first | exact hs | with_reducible apply h.wires)

theorem Base.sendRecord (h : Base R) (hs : R s) (w : PartnerLink) (r : LinkRecord) : R (s.sendRecord w r) := by
  unfold State.sendRecord
  repeat' (first | exact hs | with_reducible apply h.modWire)

theorem Base.sendCommand (h : Base R) (hs : R s) (c : Car) : R (s.sendCommand c) := by
  unfold State.sendCommand
  repeat' (first | exact hs | with_reducible apply h.link | with_reducible apply h.sendRecord | exact fun _ => rfl)

theorem Base.syncCommand (h : Base R) (hs : R s) (c : Car) : R (s.syncCommand c) := by
  unfold State.syncCommand
  repeat' (first | exact hs | with_reducible apply h.sendCommand | split)

theorem Base.syncCommands (h : Base R) (hs : R s) : R (s.syncCommands) := by
  unfold State.syncCommands
  repeat' (first | exact hs | with_reducible apply h.syncCommand)

theorem Base.doorReport (h : Base R) (hs : R s) (c : Car) (e : DoorEvent) : R (s.doorReport c e) := by
  unfold State.doorReport
  repeat' (first | exact hs | with_reducible apply h.report)

theorem Base.figuresSettled (h : Base R) (hs : R s) : R (s.figuresSettled) := h.load _ _ hs

theorem Base.recompute (h : Base R) (hs : R s) : R (s.recompute) := h.load _ _ hs

theorem Base.countWeigh (h : Base R) (hs : R s) (c : Car) (w : Option Nat) : R (s.countWeigh c w) := by
  unfold State.countWeigh
  repeat' (first | exact hs | with_reducible apply h.load | split)

theorem Base.takeSnapshot (h : Base R) (hs : R s) (n : Nat) (d : Dir) : R (s.takeSnapshot n d) := by
  unfold State.takeSnapshot
  repeat' (first | exact hs | with_reducible apply h.load)

theorem Base.dropSnapshot (h : Base R) (hs : R s) : R (s.dropSnapshot) := by
  unfold State.dropSnapshot
  repeat' (first | exact hs | with_reducible apply h.load)

theorem Base.positionReport (h : Base R) (hs : R s) (a : Bool) (b : Bool) (c : Bool) (d : Bool) (m : Option Nat) (x : Int) (y : Int) : R (s.positionReport a b c d m x y) := by
  unfold State.positionReport
  repeat' (first | exact hs | with_reducible apply h.report)

theorem Base.buildEnvelope (h : Base R) (hs : R s) (r : TripRecord) : R (s.buildEnvelope r) := by
  unfold State.buildEnvelope
  split
  · exact hs
  · exact h.env _ _ (fun _ => ⟨rfl, .inl rfl⟩) hs

theorem Base.dropEnvelope (h : Base R) (hs : R s) : R (s.dropEnvelope) := h.env _ _ (fun _ => ⟨rfl, .inl rfl⟩) hs

theorem Base.zeroPermitted (h : Base R) (hs : R s) : R (s.zeroPermitted) := h.env _ _ (fun _ => ⟨rfl, .inl rfl⟩) hs

theorem Base.classNotice (h : Base R) (hs : R s) (n : Nat) : R (s.classNotice n) :=
  h.env _ _ (fun _ => ⟨rfl, .inr ⟨rfl, rfl⟩⟩) hs

theorem Base.applyRequest (h : Base R) (hs : R s) : R (s.applyRequest) := by
  unfold State.applyRequest
  repeat' (first | exact hs | with_reducible apply h.hold)

theorem Base.windowReport (h : Base R) (hs : R s) (c : Car) (e : WindowEvent) (p : Nat) : R (s.windowReport c e p) := by
  unfold State.windowReport
  repeat' (first | exact hs | with_reducible apply h.report)

theorem Base.lockGates (h : Base R) (hs : R s) (p : Nat) : R (s.lockGates p) := by
  unfold State.lockGates
  repeat' (first | exact hs | with_reducible apply h.bus)

/-- A commit, a release or an unverified commit charges what it charges. -/
theorem Base.chargeGrant (h : Base R) (hs : R s) (g : Grant) (how : GrantEnd) : R (s.chargeGrant g how) := by
  cases how
  · exact h.charge _ _ _ _ _ hs
  · exact hs
  · exact h.charge _ _ _ _ _ hs

theorem Base.carry (h : Base R) (hs : R s) (f : List Nat → List Nat) :
    R (s.modBoard fun b => { b with carry := f b.carry }) :=
  h.board _ _ (fun _ => ⟨rfl, fun _ => ⟨rfl, rfl, rfl, rfl, rfl, rfl⟩⟩) hs

theorem Base.shutWindow (h : Base R) (hs : R s) (c : Car) (r : CloseReason) (h0 : (s.window c).inflight = 0) :
    R (s.shutWindow c r) := by
  have h1 := h.shut (s.modBoard fun b =>
    { b with carry := b.carry.set ((s.window c).platform.getD 0) (s.window c).pending }) c h0
    (h.carry hs fun l => l.set _ _)
  exact h.send (h.windowReport (h.recompute h1) _ _ _) _

theorem Base.closeWindow (h : Base R) (hs : R s) (c : Car) (r : CloseReason) : R (s.closeWindow c r) := by
  unfold State.closeWindow
  dsimp only
  split
  · next ho =>
    have hc : R ((s.lockGates ((s.window c).platform.getD 0)).modWindow c fun w =>
        { w with state := .closing, reason := some r }) := h.closing _ _ _ ho (h.lockGates hs _)
    split
    · next h0 =>
      refine h.shutWindow hc _ _ ?_
      cases c <;> exact h0
    · exact h.windowReport hc _ _ _
  · exact hs

theorem Base.openWindow (h : Base R) (hs : R s) (c : Car) (h0 : (s.window c).state = .shut) : R (s.openWindow c) := by
  unfold State.openWindow
  split
  · next d p _ _ =>
    have h1 := h.opened (s.modBoard fun b => { b with carry := b.carry.set p 0 }) c (some p)
      (min (s.board.carry.getD p 0) d.car.capacity) (min (s.board.carry.getD p 0) d.car.capacity) h0
      (h.carry hs fun l => l.set _ _)
    exact h.windowReport (h.recompute h1) _ _ _
  · exact hs

theorem Base.defer (h : Base R) (hs : R s) (c : Car) (b : Bool) : R (s.modWindow c fun w => { w with deferred := b }) :=
  h.window hs _ _ fun _ => ⟨rfl, rfl, rfl, rfl, rfl, rfl⟩

theorem Base.doorsOpened (h : Base R) (hs : R s) (c : Car) : R (s.doorsOpened c) := by
  unfold State.doorsOpened
  split
  · next hw =>
    have h0 : (s.window c).state = .shut := by simp only [Bool.and_eq_true, decide_eq_true_eq] at hw; exact hw.1.1
    exact keep_ite (fun _ => h.defer hs _ _) (fun _ => h.openWindow hs _ h0)
  · exact hs

theorem Base.deferredOpen (h : Base R) (hs : R s) (c : Car) : R (s.deferredOpen c) := by
  unfold State.deferredOpen
  dsimp only
  split
  · next hw =>
    refine h.openWindow (h.defer hs _ _) _ ?_
    simp only [Bool.and_eq_true, beq_iff_eq] at hw
    cases c <;> exact hw.1.2
  · exact h.defer hs _ _

theorem Base.inDelta (h : Base R) (hs : R s) (c : Car) (n : Nat) : R (s.inDelta c n) := by
  unfold State.inDelta
  exact keep_ite (fun _ => hs) fun _ => h.recompute (h.window hs _ _ fun _ => ⟨rfl, rfl, rfl, rfl, rfl, rfl⟩)

theorem Base.shutIfEmpty (h : Base R) (hs : R s) (c : Car) : R (s.shutIfEmpty c) := by
  unfold State.shutIfEmpty
  refine keep_ite (fun hw => h.shutWindow hs _ _ ?_) fun _ => hs
  simp only [Bool.and_eq_true, beq_iff_eq] at hw
  exact hw.2

theorem Base.endGrant (h : Base R) (hs : R s) (g : Grant) (how : GrantEnd) (hg : g ∈ s.board.grants) :
    R (s.endGrant g how) := by
  unfold State.endGrant
  exact h.shutIfEmpty (h.chargeGrant (h.recompute (h.ended _ _ _ hg hs)) _ _) _

theorem grantAt_mem {g : Grant} {n : Nat} (hg : s.grantAt n = some g) : g ∈ s.board.grants :=
  List.mem_of_find?_eq_some hg

theorem Base.outOfContact (h : Base R) (hs : R s) (n : Nat) : R (s.outOfContact n) := by
  unfold State.outOfContact
  split
  · next hg => exact h.endGrant hs _ _ (grantAt_mem hg)
  · exact hs

theorem openWindowAt_opened {p : Nat} {c : Car} (hc : s.openWindowAt p = some c) : (s.window c).state = .opened := by
  unfold State.openWindowAt at hc
  split at hc
  · next ha => simp only [Bool.and_eq_true, decide_eq_true_eq] at ha; cases hc; exact ha.1
  · split at hc
    · next hb => simp only [Bool.and_eq_true, decide_eq_true_eq] at hb; cases hc; exact hb.1
    · cases hc

/-- R144: a credit request is granted only where the gate holds no grant and the window of the car is OPEN. -/
theorem creditAnswer_granted {g : Nat} {x : Decision} {c : Car}
    (ha : s.creditAnswer g x = (.granted, c)) : s.grantAt g = none ∧ (s.window c).state = .opened := by
  unfold State.creditAnswer at ha
  split at ha
  · cases ha
  · next hg =>
    split at ha
    · next d c' _ hc =>
      have hq : c = c' ∧ ∃ q, x.platform = some q ∧ s.openWindowAt q = some c' := by
        refine ⟨?_, by simpa [Option.bind_eq_some_iff] using hc⟩
        split at ha
        · cases hk : x.kind <;> simp [hk] at ha
        · split at ha
          · simp at ha
          · split at ha
            · simp at ha; exact ha.symm
            · simp at ha
      obtain ⟨rfl, q, -, hq⟩ := hq
      exact ⟨by simpa using hg, openWindowAt_opened hq⟩
    · cases ha

theorem Base.makeGrant (h : Base R) (hs : R s) (g : Nat) (c : Car) (x : Decision) (h0 : s.grantAt g = none)
    (hw : (s.window c).state = .opened) : R (s.makeGrant g c x) := by
  unfold State.makeGrant
  dsimp only
  refine h.recompute (h.granted _ ⟨g, c, _, _, _, _, _, _, _, _⟩ h0 ?_ hs)
  rw [hw]
  decide

theorem Base.placeCommand (h : Base R) (hs : R s) (c : Car) (k : DoorCommand) : R (s.placeCommand c k) := by
  unfold State.placeCommand
  repeat' (first | exact hs | with_reducible apply h.link | with_reducible apply h.sendCommand | exact fun _ => rfl)

theorem Base.emptySlot (h : Base R) (hs : R s) (c : Car) : R (s.emptySlot c) := by
  unfold State.emptySlot
  repeat' (first | exact hs | with_reducible apply h.link | with_reducible apply h.syncCommand | exact fun _ => rfl)

theorem Base.dropReopen (h : Base R) (hs : R s) (c : Car) : R (s.dropReopen c) := by
  unfold State.dropReopen
  repeat' (first | exact hs | with_reducible apply h.emptySlot | split)

theorem Base.raiseIf (h : Base R) (hs : R s) (a : Bool) (b : Bool) (k : Cause) : R (s.raiseIf a b k) := by
  unfold State.raiseIf
  repeat' (first | exact hs | with_reducible apply h.raise | split)

theorem Base.violationTest (h : Base R) (hs : R s) (c : Car) : R (s.violationTest c) := by
  unfold State.violationTest
  dsimp only
  repeat' (first | exact hs | with_reducible apply h.door | with_reducible apply h.raiseIf | exact fun _ => rfl | split)

theorem Base.closeWindowFor (h : Base R) (hs : R s) (c : Car) (rs : List CloseReason) : R (s.closeWindowFor c rs) := by
  unfold State.closeWindowFor
  split
  · exact hs
  · exact keep_ite (fun _ => h.closeWindow (h.afterPick hs _) _ _) fun _ => hs

theorem Base.tellBoarding (h : Base R) (hs : R s) (c : Car) (old : DoorCtl) (a : Option Side) (st : DoorState)
    (e : List CloseReason) : R (s.tellBoarding c old a st e) := by
  unfold State.tellBoarding
  dsimp only
  have h1 := h.closeWindowFor hs c (closeReasons old a st e)
  split
  · refine h.doorsOpened ?_ _
    exact keep_ite (fun _ => h.defer h1 _ _) fun _ => h1
  · exact keep_ite (fun _ => h.defer h1 _ _) fun _ => h1

/-- A property that is kept where a car's door state and authority are set is kept by all that follows on it. -/
theorem Base.inner (h : Base R)
    (hd : ∀ s c a st, R s → R (s.modDoor c fun d => { d with authority := a, state := st })) : Inner R where
  toBase := h
  setDoor s c a st e hs := by
    have h1 := h.violationTest (h.syncCommand (h.drop _ (h.tellBoarding (hd s c a st hs) c (s.door.get c) a st e)) c) c
    unfold State.setDoor
    exact keep_ite (fun _ => h1) fun _ => h.send h1 _

theorem Inner.withdrawTo (h : Inner R) (hs : R s) (c : Car) (r : WithdrawReason) (st : DoorState) (e : List CloseReason) : R (s.withdrawTo c r st e) := by
  unfold State.withdrawTo
  repeat' (first | exact hs | with_reducible apply h.setDoor | with_reducible apply h.doorReport | split)

theorem Inner.doorLost (h : Inner R) (hs : R s) (c : Car) : R (s.doorLost c) := by
  unfold State.doorLost
  dsimp only
  repeat' (first | exact hs | with_reducible apply h.withdrawTo | with_reducible apply h.door | exact fun _ => rfl)

theorem Inner.withdraw (h : Inner R) (hs : R s) (c : Car) (r : WithdrawReason) : R (s.withdraw c r) := by
  unfold State.withdraw
  repeat' (first | exact hs | with_reducible apply h.withdrawTo)

theorem Inner.authorityTest (h : Inner R) (hs : R s) (c : Car) : R (s.authorityTest c) := by
  unfold State.authorityTest
  repeat' (first | exact hs | with_reducible apply h.withdraw | split)

theorem Inner.grant (h : Inner R) (hs : R s) (c : Car) (x : Side) : R (s.grant c x) := by
  unfold State.grant
  repeat' (first | exact hs | with_reducible apply h.door | with_reducible apply h.setDoor | with_reducible apply h.doorReport | exact fun _ => rfl)

theorem Inner.grantTest (h : Inner R) (hs : R s) (c : Car) : R (s.grantTest c) := by
  unfold State.grantTest
  dsimp only
  repeat' (first | exact hs | with_reducible apply h.grant | with_reducible apply h.placeCommand | split)

theorem Inner.authorityTests (h : Inner R) (hs : R s) : R (s.authorityTests) := by
  unfold State.authorityTests
  repeat' (first | exact hs | with_reducible apply h.authorityTest | with_reducible apply h.grantTest)

theorem Base.setArrivals (h : Base R) (hs : R s) (b : Bool) : R (s.setArrivals b) := by
  unfold State.setArrivals
  repeat' (first | exact hs | with_reducible apply h.door | exact fun _ => rfl)

theorem Inner.doorTests (h : Inner R) (hs : R s) : R (s.doorTests) := by
  unfold State.doorTests
  repeat' (first | exact hs | with_reducible apply h.authorityTests | with_reducible apply h.violationTest)

theorem Inner.beginClose (h : Inner R) (hs : R s) (c : Car) : R (s.beginClose c) := by
  unfold State.beginClose
  repeat' (first | exact hs | with_reducible apply h.door | with_reducible apply h.placeCommand | exact fun _ => rfl)

theorem Inner.startCycle (h : Inner R) (hs : R s) (c : Car) : R (s.startCycle c) := by
  unfold State.startCycle
  dsimp only
  repeat' (first | exact hs | with_reducible apply h.door | with_reducible apply h.setDoor | with_reducible apply h.beginClose | exact fun _ => rfl | split)

theorem Inner.completeCycle (h : Inner R) (hs : R s) (c : Car) : R (s.completeCycle c) := by
  unfold State.completeCycle
  dsimp only
  repeat' (first | exact hs | with_reducible apply h.door | with_reducible apply h.dropReopen | with_reducible apply h.withdrawTo | exact fun _ => rfl)

theorem Inner.windowShutForDoor (h : Inner R) (hs : R s) (c : Car) : R (s.windowShutForDoor c) := by
  unfold State.windowShutForDoor
  repeat' (first | exact hs | with_reducible apply h.completeCycle | with_reducible apply h.beginClose | split)

theorem Inner.enterHeld (h : Inner R) (hs : R s) (c : Car) (r : HeldReason) : R (s.enterHeld c r) := by
  unfold State.enterHeld
  dsimp only
  repeat' (first | exact hs | with_reducible apply h.door | with_reducible apply h.placeCommand | with_reducible apply h.setDoor | with_reducible apply h.doorReport | exact fun _ => rfl | split)

theorem Inner.obstruct (h : Inner R) (hs : R s) (c : Car) : R (s.obstruct c) := by
  unfold State.obstruct
  dsimp only
  repeat' (first | exact hs | with_reducible apply h.door | with_reducible apply h.placeCommand | with_reducible apply h.enterHeld | exact fun _ => rfl | split)

theorem Inner.reportInCycle (h : Inner R) (hs : R s) (c : Car) (p : CyclePhase) : R (s.reportInCycle c p) := by
  unfold State.reportInCycle
  dsimp only
  repeat' (first | exact hs | with_reducible apply h.completeCycle | with_reducible apply h.obstruct | with_reducible apply h.beginClose | split)

theorem Inner.deriveDoor (h : Inner R) (hs : R s) (c : Car) : R (s.deriveDoor c) := by
  unfold State.deriveDoor
  dsimp only
  repeat' (first | exact hs | with_reducible apply h.setDoor | split)

theorem Inner.linkDoor (h : Inner R) (hs : R s) (c : Car) : R (s.linkDoor c) := by
  unfold State.linkDoor
  repeat' (first | exact hs | with_reducible apply h.deriveDoor | split)

theorem Inner.endCycle (h : Inner R) (hs : R s) (c : Car) : R (s.endCycle c) := by
  unfold State.endCycle
  dsimp only
  repeat' (first | exact hs | with_reducible apply h.door | with_reducible apply h.deriveDoor | exact fun _ => rfl)

theorem Inner.stepTwoDoor (h : Inner R) (hs : R s) (c : Car) : R (s.stepTwoDoor c) := by
  unfold State.stepTwoDoor
  repeat' (first | exact hs | with_reducible apply h.withdraw | with_reducible apply h.startCycle | split)

end Sys2Proof.Laws
end

