-- ==== Sys2Proof/Laws/Shared.lean ====
section
/-! SUPPORT. What the shared operations can do, one lemma for each: the taking of a request, the queues and the transmitter
of the supervisor link port, the senders of the partner links, the fail-safe outputs, the capture list, the credential
store's lists, and the taking of internal notices. -/

namespace Sys2Proof.Laws

open Sys2Proof Sys2Proof.Machine

/-! ### The trip state and the envelope -/

/-- R58, R75, R82: what a new trip state changes in the trip controller and in the envelope calculator. -/
theorem State.enterTrip_eq (s : State) (st : TripState) :
    s.enterTrip st = { s with
      trip := s.trip.enter st
      env := if s.trip.state.supervised && !st.hauling then { s.env with vPerm := 0 } else s.env } := by
  unfold State.enterTrip State.tellEnvelope
  split <;> rfl

/-- R53 to R55: following the list leaves both class caps as they are. -/
theorem Envelope.track_caps (d : LineDesc) (est : Estimator) (dir : Option Dir) (v : View) (e : Envelope) :
    (e.track d est dir v).cap = e.cap ∧ (e.track d est dir v).pendingCap = e.pendingCap := by
  unfold Envelope.track Envelope.advance Envelope.rezone
  split
  · split <;> exact ⟨rfl, rfl⟩
  · exact ⟨rfl, rfl⟩

/-- R57: what the test of the pending cap does. -/
theorem Envelope.capTest_caps (vm : Nat) (e : Envelope) :
    (e.pendingCap = none → e.capTest vm = e) ∧
      ∀ c, e.pendingCap = some c →
        (vm ≤ c → e.capTest vm = { e with cap := some c, pendingCap := none }) ∧ (c < vm → e.capTest vm = e) := by
  refine ⟨fun h => ?_, fun c h => ⟨fun hc => ?_, fun hc => ?_⟩⟩ <;> simp [Envelope.capTest, h]
  · exact fun hn => absurd hc (Nat.not_le.2 hn)
  · exact fun hn => absurd hn (Nat.not_le.2 hc)

/-- R95: without a cause nothing is taken. -/
@[simp] theorem State.takeCauseOf_none (s : State) : s.takeCauseOf none = s := rfl

@[simp] theorem State.takeCauseOf_some (s : State) (c : Cause) : s.takeCauseOf (some c) = s.takeCause c := rfl

/-! ### The windows of mark events -/

/-- R14: what an activation keeps: the windows in force before it, and none of a first one. -/
theorem Monitor.keepWindows_eq (old : Option LineDesc) (m : Monitor) :
    m.keepWindows old = { m with oldWindows := old.map fun o => m.oldWindows.getD (o.line.corrWindow, o.line.idWindow) } := rfl

/-- R14: with no window kept, those of the active LINE record are in force. -/
theorem Monitor.windows_of_none (d : LineDesc) {m : Monitor} (h : m.oldWindows = none) :
    m.windows d = (d.line.corrWindow, d.line.idWindow) := by
  simp [Monitor.windows, h]

/-- R14: the windows kept are those in force, whatever configuration follows. -/
theorem Monitor.windows_of_some (d : LineDesc) {m : Monitor} {w : Nat × Nat} (h : m.oldWindows = some w) :
    m.windows d = w := by
  simp [Monitor.windows, h]

/-- R14: a sample ends the windows of before. -/
@[simp] theorem Monitor.sample_oldWindows (d : LineDesc) (sb : Bool) (run : Option Dir) (m : Monitor) :
    (m.sample d sb run).monitor.oldWindows = none := rfl

/-! ### Requests -/

@[simp] theorem firstRow_nil (o : Ruling) : firstRow [] o = o := rfl

@[simp] theorem firstRow_true (r o : Ruling) (rows : List (Bool × Ruling)) : firstRow ((true, r) :: rows) o = r := rfl

@[simp] theorem firstRow_false (r o : Ruling) (rows : List (Bool × Ruling)) :
    firstRow ((false, r) :: rows) o = firstRow rows o := rfl

theorem firstRow_of_none {rows : List (Bool × Ruling)} (h : ∀ r ∈ rows, r.1 = false) (o : Ruling) : firstRow rows o = o := by
  induction rows with
  | nil => rfl
  | cons r rows ih =>
    obtain ⟨b, x⟩ := r
    have hb : b = false := h (b, x) (by simp)
    subst hb
    exact ih fun r hr => h r (List.mem_cons_of_mem _ hr)

/-- A request that the port takes is decided by its owner on the state with the assembler back in HUNT. -/
theorem request_taken {α : Type} {s : State} (hs : s.TakesRequests) (seq typ : Byte) (a : α) (owner : α → State → Ruling) :
    request seq typ (some a) owner s = s.hunting.rule seq typ (owner a s.hunting) := by
  obtain ⟨h1, h2, h3⟩ := hs
  simp [request, State.hunting, h1, h3, Nat.not_le.2 h2]

/-- R174: a payload of the wrong length. -/
theorem request_length {α : Type} {s : State} (h1 : s.port.restarting = false)
    (h2 : s.port.replies.length < Config.replyQueueSize) (seq typ : Byte) (owner : α → State → Ruling) :
    request seq typ none owner s = s.replied typ seq (.plain .length) := by
  simp only [request, h1, Bool.false_eq_true, if_false, if_neg (Nat.not_le.2 h2)]
  rfl

/-- R16: a request while LOADING. -/
theorem request_loading {α : Type} {s : State} (h1 : s.port.restarting = false)
    (h2 : s.port.replies.length < Config.replyQueueSize) (h3 : s.cfg.commit = .loading) (seq typ : Byte) (a : α)
    (owner : α → State → Ruling) : request seq typ (some a) owner s = s.replied typ seq (.plain .busy) := by
  simp only [request, h1, Bool.false_eq_true, if_false, if_neg (Nat.not_le.2 h2), if_pos h3]
  rfl

/-- R179: a frame after an accepted RESTART. -/
theorem request_restarting {α : Type} {s : State} (h : s.port.restarting = true) (seq typ : Byte) (args : Option α)
    (owner : α → State → Ruling) : request seq typ args owner s = s.figuresSettled.hunting := by
  simp [request, State.frameOver, State.hunting, h]

/-- R176: a request overrun. -/
theorem request_overrun {α : Type} {s : State} (h1 : s.port.restarting = false)
    (h2 : Config.replyQueueSize ≤ s.port.replies.length) (seq typ : Byte) (args : Option α) (owner : α → State → Ruling) :
    request seq typ args owner s = s.figuresSettled.modPort Port.discard := by
  simp only [request, State.frameOver, h1, Bool.false_eq_true, if_false, if_pos h2]

/-- A ruling with a body: the reply joins the queue, and the effect follows. -/
@[simp] theorem rule_body (s : State) (seq typ : Byte) (b : ReplyBody) (f : State → State) :
    s.hunting.rule seq typ ⟨some b, f⟩ = f (s.replied typ seq b) := rfl

@[simp] theorem rule_held (s : State) (seq typ : Byte) (f : State → State) : s.rule seq typ ⟨none, f⟩ = f s.figuresSettled :=
  rfl

@[simp] theorem accept_eq (f : State → State) : Ruling.accept f = ⟨some (.plain .ok), f⟩ := rfl
@[simp] theorem done_eq (f : State → State) : Ruling.done f = ⟨some (.done false), f⟩ := rfl
@[simp] theorem noChange_eq : Ruling.noChange = ⟨some (.done true), id⟩ := rfl
@[simp] theorem refuse_eq (r : Result) : Ruling.refuse r = ⟨some (.plain r), id⟩ := rfl

@[simp] theorem hunting_with (s : State) : { s.hunting with port := s.port } = s := rfl

/-- R173, R179: a frame that ends without a reply changes the port, and no figures are passing after it. -/
@[simp] theorem frameOver_eq (s : State) (f : Port → Port) : s.frameOver f = { s.figuresSettled with port := f s.port } := rfl

/-- R181: a record that is taken leaves its link's assembler in HUNT, and no figures are passing after it. -/
theorem recordTaken_eq (s : State) (w : PartnerLink) :
    s.recordTaken w = { s.figuresSettled with wires := s.wires.set w { s.wires.get w with rx := Assembler.idle } } := rfl

/-! ### The queues and the transmitter -/

/-- R176: what a transmitter that starts takes. -/
theorem start_cases (p : Port) :
    (p.sending.isSome = true ∧ p.start = p) ∨
    (p.sending = none ∧ p.replies = [] ∧ p.reports = [] ∧ p.start = p) ∨
    (∃ r rs, p.sending = none ∧ p.replies = r :: rs ∧ p.start = { p with sending := some (.reply r), replies := rs }) ∨
    (∃ r rs, p.sending = none ∧ p.replies = [] ∧ p.reports = r :: rs ∧
      p.start = { p with sending := some (.report r), reports := rs }) := by
  unfold Port.start
  cases hs : p.sending with
  | some f => exact .inl ⟨rfl, rfl⟩
  | none =>
    cases hr : p.replies with
    | cons r rs => exact .inr (.inr (.inl ⟨r, rs, rfl, rfl, rfl⟩))
    | nil =>
      cases hp : p.reports with
      | nil => exact .inr (.inl ⟨rfl, rfl, rfl, rfl⟩)
      | cons r rs => exact .inr (.inr (.inr ⟨r, rs, rfl, rfl, rfl, rfl⟩))

/-- R174: a reply goes out at once where the transmitter is free, and joins the queue otherwise. -/
theorem queueReply_cases (p : Port) (r : Reply) (hr : p.sending = none → p.replies = []) :
    (p.sending = none ∧ p.queueReply r = { p with sending := some (.reply r) }) ∨
    (p.sending.isSome = true ∧ p.queueReply r = { p with replies := p.replies ++ [r] }) := by
  unfold Port.queueReply Port.start
  cases hs : p.sending with
  | some f => exact .inr ⟨rfl, by simp⟩
  | none => exact .inl ⟨rfl, by simp [hr hs]⟩

/-- R177: a report that meets a full queue. -/
theorem queueReport_full (p : Port) (r : Report) (h : Config.reportQueueSize ≤ p.reports.length) :
    p.queueReport r = { p with dropped := true } := by
  simp only [Port.queueReport, if_pos h]

/-- R177: a report that the queue takes. -/
theorem queueReport_room (p : Port) (r : Report) (h : p.reports.length < Config.reportQueueSize) :
    p.queueReport r = Port.start { p with reports := p.reports ++ [r] } := by
  simp only [Port.queueReport, if_neg (Nat.not_le.2 h)]

/-! ### The partner links -/

/-- R181: a record formed for a free link, and for a link that is sending. -/
@[simp] theorem push_free (l : LinkPort) (r : LinkRecord) (h : l.sending = none) : l.push r = { l with sending := some r } := by
  simp [LinkPort.push, h]

@[simp] theorem push_busy (l : LinkPort) (r x : LinkRecord) (h : l.sending = some x) :
    l.push r = { l with waiting := (l.waiting.filter fun w => w.kindCode != r.kindCode) ++ [r] } := by
  simp [LinkPort.push, h]

/-! ### The fail-safe outputs -/

@[simp] theorem apply_command (b : BrakeLine) : b.apply.command = .applied := by
  unfold BrakeLine.apply
  split <;> simp_all

@[simp] theorem lift_command (b : BrakeLine) : b.lift.command = .lifted := by
  unfold BrakeLine.lift
  split <;> simp_all

@[simp] theorem apply_feedback (b : BrakeLine) : b.apply.feedback = b.feedback := by
  unfold BrakeLine.apply
  split <;> rfl

@[simp] theorem lift_feedback (b : BrakeLine) : b.lift.feedback = b.feedback := by
  unfold BrakeLine.lift
  split <;> rfl

@[simp] theorem hold_command (b : BrakeSup) : b.hold.sb.command = .applied := apply_command _
@[simp] theorem hold_de (b : BrakeSup) : b.hold.de = false := rfl
@[simp] theorem hold_eb (b : BrakeSup) : b.hold.eb = b.eb := rfl
@[simp] theorem hold_state (b : BrakeSup) : b.hold.state = b.state := rfl
@[simp] theorem hold_captures (b : BrakeSup) : b.hold.captures = b.captures := rfl

/-- R102: a capture changes the list and the overflow flag alone. -/
theorem capture_frame (b : BrakeSup) (c : Cause) (n : Nat) (x : Option Int) :
    ∃ l o, b.capture c n x = { b with captures := l, overflow := o } := by
  unfold BrakeSup.capture
  split
  · exact ⟨_, _, rfl⟩
  · split <;> exact ⟨_, _, rfl⟩

@[simp] theorem capture_sb (b : BrakeSup) (c : Cause) (n : Nat) (x : Option Int) : (b.capture c n x).sb = b.sb := by
  obtain ⟨l, o, h⟩ := capture_frame b c n x
  rw [h]

@[simp] theorem capture_eb (b : BrakeSup) (c : Cause) (n : Nat) (x : Option Int) : (b.capture c n x).eb = b.eb := by
  obtain ⟨l, o, h⟩ := capture_frame b c n x
  rw [h]

@[simp] theorem capture_de (b : BrakeSup) (c : Cause) (n : Nat) (x : Option Int) : (b.capture c n x).de = b.de := by
  obtain ⟨l, o, h⟩ := capture_frame b c n x
  rw [h]

@[simp] theorem capture_state (b : BrakeSup) (c : Cause) (n : Nat) (x : Option Int) :
    (b.capture c n x).state = b.state := by
  obtain ⟨l, o, h⟩ := capture_frame b c n x
  rw [h]

/-! ### The credential store's lists -/

/-- R167: what an append leaves in the ring. -/
theorem ringAppend_mem (capacity id x : Nat) (ring : List Nat) :
    x ∈ ringAppend capacity id ring → x = id ∨ x ∈ ring := by
  unfold ringAppend
  split
  · exact .inr
  · split
    · simp only [List.mem_append, List.mem_singleton]
      exact fun h => h.elim (fun h => .inr (List.mem_of_mem_drop h)) .inl
    · simp only [List.mem_append, List.mem_singleton]
      exact fun h => h.elim .inr .inl

/-- R163: the ids after a load. -/
theorem insertPass_ids (r : PassRec) (ps : List PassRec) (x : Nat) :
    x ∈ (insertPass r ps).map (·.id) ↔ x = r.id ∨ x ∈ ps.map (·.id) := by
  induction ps with
  | nil => simp [insertPass]
  | cons p ps ih =>
    unfold insertPass
    split
    · simp
    · split
      · next h => simp [h]
      · simp only [List.map_cons, List.mem_cons, ih]
        tauto

/-! ### The internal notices -/

@[simp] theorem settle_none (s : State) (h : s.notices = []) : s.settle = s := by
  unfold State.settle Config.settleFuel
  simp [settleN, h]

/-- One notice alone is taken without a choice. -/
theorem takeOne_single (s : State) (n : Notice) (h : s.notices = [n]) :
    s.takeOne = ({ s with notices := [] }).takeNotice n := by
  simp [State.takeOne, State.pickOf, State.afterPick, h]

end Sys2Proof.Laws
end

