-- ==== Sys2Proof/Laws/KeepTrips.lean ====
section
/-! SUPPORT. The trip controller, the brake supervisor's decisions and the gate bus keep every property that its primitive
changes keep (Laws/Closed.lean). -/

namespace Sys2Proof.Laws

open Sys2Proof Sys2Proof.Machine

variable {R : State → Prop} {s : State}

theorem Inner.modRecord (h : Inner R) (hs : R s) (f : TripRecord → TripRecord) : R (s.modRecord f) := by
  unfold State.modRecord
  repeat' (first | exact hs | with_reducible apply h.enter | with_reducible apply h.trip | exact fun _ => ⟨rfl, rfl⟩)

theorem Inner.setTripState (h : Inner R) (hs : R s) (st : TripState) : R (s.setTripState st) := by
  unfold State.setTripState
  dsimp only
  repeat' (first | exact hs | with_reducible apply h.enter | with_reducible apply h.trip | with_reducible apply h.setArrivals | with_reducible apply h.doorTests | with_reducible apply h.syncCommands | exact fun _ => ⟨rfl, rfl⟩ | split)

theorem Inner.tripReport (h : Inner R) (hs : R s) (a : TripState) (b : TripState) (r : TripReason) : R (s.tripReport a b r) := by
  unfold State.tripReport
  repeat' (first | exact hs | with_reducible apply h.report)

theorem Inner.moveTrip (h : Inner R) (hs : R s) (st : TripState) (r : TripReason) : R (s.moveTrip st r) := by
  unfold State.moveTrip
  repeat' (first | exact hs | with_reducible apply h.setTripState | with_reducible apply h.tripReport)

theorem Inner.discardRecord (h : Inner R) (hs : R s) : R (s.discardRecord) := by
  unfold State.discardRecord
  repeat' (first | exact hs | with_reducible apply h.enter | with_reducible apply h.trip | with_reducible apply h.dropSnapshot | with_reducible apply h.dropEnvelope | exact fun _ => ⟨rfl, rfl⟩)

theorem Inner.abandon (h : Inner R) (hs : R s) (r : TripReason) : R (s.abandon r) := by
  unfold State.abandon
  repeat' (first | exact hs | with_reducible apply h.enter | with_reducible apply h.trip | with_reducible apply h.moveTrip | exact fun _ => ⟨rfl, rfl⟩ | split)

theorem Inner.endLift (h : Inner R) (hs : R s) (r : TripReason) : R (s.endLift r) := by
  unfold State.endLift
  repeat' (first | exact hs | with_reducible apply h.applyRequest | with_reducible apply h.discardRecord | with_reducible apply h.moveTrip | split)

theorem Inner.failLift (h : Inner R) (hs : R s) : R (s.failLift) := by
  unfold State.failLift
  repeat' (first | exact hs | with_reducible apply h.raise | with_reducible apply h.endLift | split)

theorem Inner.enterLifting (h : Inner R) (hs : R s) : R (s.enterLifting) := by
  unfold State.enterLifting
  dsimp only
  repeat' (first | exact hs | with_reducible apply h.enter | with_reducible apply h.trip | with_reducible apply h.setTripState | with_reducible apply h.takeSnapshot | with_reducible apply h.buildEnvelope | with_reducible apply h.modRecord | with_reducible apply h.tripReport | with_reducible apply h.driveRequest | exact fun _ => ⟨rfl, rfl⟩ | split)

theorem Inner.enterBrakePhase (h : Inner R) (hs : R s) : R (s.enterBrakePhase) := by
  unfold State.enterBrakePhase
  repeat' (first | exact hs | with_reducible apply h.liftRequest | with_reducible apply h.enter | with_reducible apply h.trip | with_reducible apply h.authorityTests | exact fun _ => ⟨rfl, rfl⟩ | split)

theorem Closed.startRun (h : Closed R) (hs : R s) : R (s.startRun) := by
  unfold State.startRun
  exact h.trip _ _ (fun _ => ⟨rfl, rfl⟩) (h.pos _ _ hs)

theorem Closed.lifted (h : Closed R) (hs : R s) : R (s.lifted) := by
  unfold State.lifted
  split
  · exact h.moveTrip (h.startRun hs) _ _
  · exact hs

theorem Inner.stepThree (h : Inner R) (hs : R s) : R (s.stepThree) := by
  unfold State.stepThree
  dsimp only
  repeat' (first | exact hs | with_reducible apply h.enter | with_reducible apply h.trip | with_reducible apply h.abandon | with_reducible apply h.enterLifting | exact fun _ => ⟨rfl, rfl⟩ | split)

theorem Inner.holdRecheck (h : Inner R) (hs : R s) : R (s.holdRecheck) := by
  unfold State.holdRecheck
  repeat' (first | exact hs | with_reducible apply h.stepThree | split)

theorem Inner.stepTwoTest (h : Inner R) (hs : R s) : R (s.stepTwoTest) := by
  unfold State.stepTwoTest
  repeat' (first | exact hs | with_reducible apply h.stepThree | split)

theorem Inner.doorNotice (h : Inner R) (hs : R s) (c : Car) : R (s.doorNotice c) := by
  unfold State.doorNotice
  repeat' (first | exact hs | with_reducible apply h.abandon | with_reducible apply h.stepTwoTest | split)

theorem Inner.stepTwo (h : Inner R) (hs : R s) : R (s.stepTwo) := by
  unfold State.stepTwo
  repeat' (first | exact hs | with_reducible apply h.enter | with_reducible apply h.trip | with_reducible apply h.stepTwoDoor | with_reducible apply h.stepTwoTest | exact fun _ => ⟨rfl, rfl⟩)

theorem Inner.stepOneTest (h : Inner R) (hs : R s) : R (s.stepOneTest) := by
  unfold State.stepOneTest
  repeat' (first | exact hs | with_reducible apply h.stepTwo | split)

theorem Inner.stepOne (h : Inner R) (hs : R s) : R (s.stepOne) := by
  unfold State.stepOne
  repeat' (first | exact hs | with_reducible apply h.closeWindow | with_reducible apply h.stepOneTest)

theorem Inner.depart (h : Inner R) (hs : R s) (k : TripKind) (o : Option Nat) (t : Option Nat) (d : Dir) (c : SpeedClass) : R (s.depart k o t d c) := by
  unfold State.depart
  dsimp only
  repeat' (first | exact hs | with_reducible apply h.enter | with_reducible apply h.trip | with_reducible apply h.moveTrip | with_reducible apply h.stepOne | exact fun _ => ⟨rfl, rfl⟩)

theorem Inner.putStop (h : Inner R) (hs : R s) (w : StopReason) : R (s.putStop w) := by
  unfold State.putStop
  repeat' (first | exact hs | with_reducible apply h.modRecord | with_reducible apply h.tripReport | with_reducible apply h.report | with_reducible apply h.syncCommands | split)

theorem Inner.stopTrip (h : Inner R) (hs : R s) : R (s.stopTrip) := by
  unfold State.stopTrip
  repeat' (first | exact hs | with_reducible apply h.abandon | with_reducible apply h.endLift | with_reducible apply h.putStop | split)

theorem Inner.alarm (h : Inner R) (hs : R s) : R (s.alarm) := by
  unfold State.alarm
  repeat' (first | exact hs | with_reducible apply h.endLift | with_reducible apply h.putStop | split)

theorem Inner.interventionNotice (h : Inner R) (hs : R s) : R (s.interventionNotice) := by
  unfold State.interventionNotice
  repeat' (first | exact hs | with_reducible apply h.abandon | with_reducible apply h.enter | with_reducible apply h.trip | with_reducible apply h.moveTrip | exact fun _ => ⟨rfl, rfl⟩ | split)

theorem Inner.markFound (h : Inner R) (hs : R s) : R (s.markFound) := by
  unfold State.markFound
  dsimp only
  repeat' (first | exact hs | with_reducible apply h.modRecord | with_reducible apply h.putStop | split)

theorem Inner.stateTests (h : Inner R) (hs : R s) (d : LineDesc) : R (s.stateTests d) := by
  unfold State.stateTests
  repeat' (first | exact hs | with_reducible apply h.moveTrip | split)

theorem Inner.haul (h : Inner R) (hs : R s) (d : LineDesc) : R (s.haul d) := by
  unfold State.haul
  dsimp only
  split
  · exact hs
  · split
    · next hh => exact keep_ite (fun _ => h.moveTrip hs _ _) fun _ => h.reference _ _ hh hs
    · exact hs

theorem Inner.progressTest (h : Inner R) (hs : R s) (v : Nat) : R (s.progressTest v) := by
  unfold State.progressTest
  dsimp only
  repeat' (first | exact hs | with_reducible apply h.enter | with_reducible apply h.trip | with_reducible apply h.raise | exact fun _ => ⟨rfl, rfl⟩ | split)

theorem Inner.referenceTest (h : Inner R) (hs : R s) (d : LineDesc) : R (s.referenceTest d) := by
  unfold State.referenceTest
  dsimp only
  repeat' (first | exact hs | with_reducible apply h.modRecord | with_reducible apply h.markFound | with_reducible apply h.raise | split)

theorem Inner.overtravelTest (h : Inner R) (hs : R s) (d : LineDesc) : R (s.overtravelTest d) := by
  unfold State.overtravelTest
  repeat' (first | exact hs | with_reducible apply h.modRecord | with_reducible apply h.raise | split)

theorem Inner.lateMarkStop (h : Inner R) (hs : R s) : R (s.lateMarkStop) := by
  unfold State.lateMarkStop
  repeat' (first | exact hs | with_reducible apply h.markFound | with_reducible apply h.putStop | split)

theorem Inner.runView (h : Inner R) (hs : R s) (d : LineDesc) : R (s.runView d) := by
  unfold State.runView
  repeat' (first | exact hs | with_reducible apply h.lateMarkStop | with_reducible apply h.stateTests | with_reducible apply h.haul | with_reducible apply h.progressTest | with_reducible apply h.referenceTest | with_reducible apply h.overtravelTest)

theorem Inner.arrive (h : Inner R) (hs : R s) : R (s.arrive) := by
  unfold State.arrive
  dsimp only
  repeat' (first | exact hs | with_reducible apply h.applyRequest | with_reducible apply h.discardRecord | with_reducible apply h.setArrivals | with_reducible apply h.moveTrip | split)

theorem Inner.settleView (h : Inner R) (hs : R s) (d : LineDesc) : R (s.settleView d) := by
  unfold State.settleView
  dsimp only
  repeat' (first | exact hs | with_reducible apply h.referenceTest | with_reducible apply h.overtravelTest | with_reducible apply h.arrive | split)

theorem Inner.intervenedView (h : Inner R) (hs : R s) (d : LineDesc) : R (s.intervenedView d) := by
  unfold State.intervenedView
  dsimp only
  repeat' (first | exact hs | with_reducible apply h.overtravelTest | with_reducible apply h.discardRecord | with_reducible apply h.moveTrip | split)

theorem Inner.parkedView (h : Inner R) (hs : R s) (k : Nat) : R (s.parkedView k) := by
  unfold State.parkedView
  repeat' (first | exact hs | with_reducible apply h.moveTrip | split)

theorem Inner.driveView (h : Inner R) (hs : R s) : R (s.driveView) := by
  unfold State.driveView
  dsimp only
  repeat' (first | exact hs | with_reducible apply h.enter | with_reducible apply h.trip | with_reducible apply h.raise | with_reducible apply h.sendRecord | exact fun _ => ⟨rfl, rfl⟩ | split)

theorem Inner.tripView (h : Inner R) (hs : R s) : R (s.tripView) := by
  unfold State.tripView
  repeat' (first | exact hs | with_reducible apply h.parkedView | with_reducible apply h.driveView | with_reducible apply h.runView | with_reducible apply h.settleView | with_reducible apply h.intervenedView | split)

theorem Inner.faultReport (h : Inner R) (hs : R s) (c : Cause) : R (s.faultReport c) := by
  unfold State.faultReport
  repeat' (first | exact hs | with_reducible apply h.report)

theorem Inner.interventionReport (h : Inner R) (hs : R s) (e : InterventionEvent) (c : Option Cause) : R (s.interventionReport e c) := by
  unfold State.interventionReport
  repeat' (first | exact hs | with_reducible apply h.report)

theorem Inner.afterEntry (h : Inner R) (hs : R s) (e : InterventionEvent) (c : Cause) : R (s.afterEntry e c) := by
  unfold State.afterEntry
  repeat' (first | exact hs | with_reducible apply h.setArrivals | with_reducible apply h.authorityTests | with_reducible apply h.syncCommands | with_reducible apply h.interventionNotice | with_reducible apply h.interventionReport)

/-- R96: a cause puts the supervisor into SERVICE only where the latch is clear. -/
theorem causeEffect_service {v : Severity} {st : SupState} (h : causeEffect v st = .service) :
    st = .normal ∨ st = .warning := by
  revert h
  cases v <;> cases st <;> simp [causeEffect]

theorem Caused.takeCause (h : Caused R) (hs : R s) (c : Cause) : R (s.takeCause c) := by
  have h1 : R (s.modBrake fun b => b.capture c s.departureNumber (if s.pos.published then some s.pos.view.xP else none)) :=
    h.capture _ _ _ _ hs
  unfold State.takeCause
  dsimp only
  split
  · exact h.faultReport h1 _
  · next he =>
    refine h.afterEntry (h.service _ ?_ h1) _ _
    have hl := causeEffect_service he
    unfold BrakeSup.latch
    rw [show (s.modBrake fun b => b.capture c s.departureNumber
      (if s.pos.published then some s.pos.view.xP else none)).brake.state = s.brake.state from capture_state _ _ _ _]
    rcases hl with hl | hl <;> rw [hl]
  · exact h.afterEntry (h.emergency _ h1) _ _
  · exact h.afterEntry (h.emergency _ h1) _ _

theorem Caused.warningTest (h : Caused R) (hs : R s) (r : EnvResult) : R (s.warningTest r) := by
  unfold State.warningTest
  split
  · next hb => exact h.report _ _ (h.warn _ hb hs)
  · next hb => exact h.calm _ hb hs
  · exact hs

theorem Caused.takeCauseOf (h : Caused R) (hs : R s) (c : Option Cause) : R (s.takeCauseOf c) := by
  cases c with
  | none => exact hs
  | some c => exact h.takeCause hs c

theorem Caused.brakeResult (h : Caused R) (hs : R s) : R (s.brakeResult) := by
  unfold State.brakeResult
  dsimp only
  repeat' (first | exact hs | with_reducible apply h.hold | with_reducible apply h.capture | with_reducible apply h.service | with_reducible apply h.emergency | with_reducible apply h.applyEb | with_reducible apply h.brake | with_reducible apply h.warningTest | with_reducible apply h.takeCauseOf | with_reducible apply h.takeCause | exact fun _ => ⟨rfl, rfl, rfl, rfl, rfl⟩ | split)

theorem Caused.escalationCheck (h : Caused R) (hs : R s) : R (s.escalationCheck) := by
  unfold State.escalationCheck
  dsimp only
  repeat' (first | exact hs | with_reducible apply h.hold | with_reducible apply h.capture | with_reducible apply h.service | with_reducible apply h.emergency | with_reducible apply h.applyEb | with_reducible apply h.brake | with_reducible apply h.takeCause | exact fun _ => ⟨rfl, rfl, rfl, rfl, rfl⟩ | split)

theorem Caused.takeNotice (h : Caused R) (hs : R s) (n : Notice) : R (s.takeNotice n) := by
  cases n
  · exact h.takeCause hs _
  · exact h.stepOneTest (h.windowShutForDoor hs _)
  · exact h.doorNotice hs _

theorem Caused.takeOne (h : Caused R) (hs : R s) : R s.takeOne := by
  unfold State.takeOne
  dsimp only
  split
  · exact hs
  · exact h.takeNotice (h.notices _ _ (h.afterPick hs _)) _

theorem Caused.settleN (h : Caused R) (n : Nat) : ∀ {s}, R s → R (Machine.settleN n s) := by
  induction n with
  | zero => exact fun hs => hs
  | succ n ih => exact fun hs => keep_ite (fun _ => hs) fun _ => ih (h.takeOne hs)

theorem Caused.settle (h : Caused R) (hs : R s) : R s.settle := h.settleN _ hs

theorem Inner.modGate (h : Inner R) (hs : R s) (g : Nat) (f : Gate → Gate) : R (s.modGate g f) := by
  unfold State.modGate
  repeat' (first | exact hs | with_reducible apply h.bus)

theorem Inner.sendPoll (h : Inner R) (hs : R s) : R (s.sendPoll) := by
  unfold State.sendPoll
  repeat' (first | exact hs | with_reducible apply h.bus | with_reducible apply h.sendRecord | split)

theorem Inner.wakeBus (h : Inner R) (hs : R s) : R (s.wakeBus) := by
  unfold State.wakeBus
  repeat' (first | exact hs | with_reducible apply h.sendPoll | split)

theorem Inner.validAnswer (h : Inner R) (hs : R s) (g : Nat) (b : Bool) : R (s.validAnswer g b) := by
  unfold State.validAnswer
  dsimp only
  repeat' (first | exact hs | with_reducible apply h.modGate | with_reducible apply h.report | split)

theorem Caused.answer (h : Caused R) (hs : R s) (g : Nat) (f k : State → State) (hf : ∀ t, R t → R (f t))
    (hk : ∀ t, R t → R (k t)) : R (s.answer g f k) := by
  unfold State.answer
  dsimp only
  split
  · exact hs
  · refine keep_ite (fun _ => keep_ite (fun _ => ?_) fun _ => ?_) fun _ => hs
    · exact h.wakeBus (hf _ (h.bus _ _ hs))
    · exact h.settle (h.wakeBus (hk _ (h.validAnswer (h.bus _ _ hs) _ _)))

theorem Inner.protocolError (h : Inner R) (hs : R s) (g : Nat) : R (s.protocolError g) := by
  unfold State.protocolError
  repeat' (first | exact hs | with_reducible apply h.modGate)

theorem Inner.missGate (h : Inner R) (hs : R s) (g : Nat) : R (s.missGate g) := by
  unfold State.missGate
  dsimp only
  repeat' (first | exact hs | with_reducible apply h.modGate | with_reducible apply h.outOfContact | with_reducible apply h.report | split)

theorem Caused.pollFails (h : Caused R) (hs : R s) (p : Bool) : R (s.pollFails p) := by
  unfold State.pollFails
  dsimp only
  repeat' (first | exact hs | with_reducible apply h.bus | with_reducible apply h.figuresSettled | with_reducible apply h.protocolError | with_reducible apply h.missGate | with_reducible apply h.wakeBus | with_reducible apply h.settle | split)

theorem Inner.passageAnswer (h : Inner R) (hs : R s) (g : Nat) (how : GrantEnd) : R (s.passageAnswer g how) := by
  unfold State.passageAnswer
  split
  · next hg => exact h.endGrant hs _ _ (grantAt_mem hg)
  · exact h.protocolError hs _

theorem Inner.faultAnswer (h : Inner R) (hs : R s) (g : Nat) (c : Nat) : R (s.faultAnswer g c) := by
  unfold State.faultAnswer
  repeat' (first | exact hs | with_reducible apply h.modGate | with_reducible apply h.report | with_reducible apply h.outOfContact)

theorem Inner.verdict (h : Inner R) (hs : R s) (g : Nat) (r : Option RefuseReason) (n : Nat) : R (s.verdict g r n) := by
  unfold State.verdict
  repeat' (first | exact hs | with_reducible apply h.sendRecord)

theorem Inner.presentAnswer (h : Inner R) (hs : R s) (g : Nat) (x : Credential) : R (s.presentAnswer g x) := by
  unfold State.presentAnswer
  repeat' (first | exact hs | with_reducible apply h.verdict | with_reducible apply h.modGate | split)

theorem Inner.creditStep (h : Inner R) (hs : R s) (g : Nat) : R (s.creditStep g) := by
  unfold State.creditStep
  dsimp only
  split
  · exact hs
  · refine h.wakeBus (h.modGate (h.verdict ?_ _ _ _) _ _)
    split
    · next ha =>
      have := creditAnswer_granted (Prod.ext ha rfl)
      exact h.makeGrant (h.figuresSettled hs) _ _ _ this.1 this.2
    · exact h.figuresSettled hs

theorem Inner.disableGate (h : Inner R) (hs : R s) (g : Nat) : R (s.disableGate g) := by
  unfold State.disableGate
  dsimp only
  repeat' (first | exact hs | with_reducible apply h.modGate | with_reducible apply h.outOfContact | with_reducible apply h.report)

theorem Inner.enableGate (h : Inner R) (hs : R s) (g : Nat) : R (s.enableGate g) := by
  unfold State.enableGate
  repeat' (first | exact hs | with_reducible apply h.modGate | with_reducible apply h.report | with_reducible apply h.wakeBus)

theorem Inner.configureGates (h : Inner R) (hs : R s) (d : LineDesc) : R (s.configureGates d) := by
  unfold State.configureGates
  repeat' (first | exact hs | with_reducible apply h.bus)

end Sys2Proof.Laws
end

