-- ==== Sys2Proof/Laws/KeepCommands.lean ====
section
/-! SUPPORT. Every command, and so every step, keeps every property that its primitive changes keep (Laws/Closed.lean). -/

namespace Sys2Proof.Laws

open Sys2Proof Sys2Proof.Machine

variable {R : State → Prop} {s : State}

/-! ### Requests -/

/-- The first row that holds gives the ruling, or the last line of the table does. -/
theorem firstRow_keep {P : Ruling → Prop} {rows : List (Bool × Ruling)} {o : Ruling}
    (hr : ∀ r ∈ rows, r.1 = true → P r.2) (ho : (∀ r ∈ rows, r.1 = false) → P o) : P (firstRow rows o) := by
  unfold firstRow
  cases hf : rows.find? fun r => r.1 with
  | none => exact ho (by simpa using hf)
  | some r => exact hr r (List.mem_of_find?_eq_some hf) (by simpa using List.find?_some hf)

/-- R176: a transmitter that starts takes at most what waits. -/
theorem start_replies_le (p : Port) : (Port.start p).replies.length ≤ p.replies.length := by
  unfold Port.start
  split
  · exact le_rfl
  · split
    · next hr => rw [hr]; simp
    · next hr => split <;> simp [hr]

theorem queueReply_replies_le (p : Port) (r : Reply) : (p.queueReply r).replies.length ≤ p.replies.length + 1 := by
  unfold Port.queueReply
  refine (start_replies_le _).trans ?_
  simp

/-- The effects of an owner keep the property, on the state it ruled on with its reply queued and other passing figures. -/
def OwnerKeeps (R : State → Prop) (o : State → Ruling) : Prop :=
  ∀ t u, (∃ f x, u = (t.modLoad fun e => { e with passing := x }).modPort f) → u.port.replies.length ≤ 4 → R u → R ((o t).effect u)

theorem Closed.rule (h : Closed R) (hs : R s) (seq typ : Byte) (o : State → Ruling) (hl : s.port.replies.length < 4)
    (ho : OwnerKeeps R o) : R (s.rule seq typ (o s)) := by
  have h1 := h.figuresSettled hs
  unfold State.rule
  split
  · exact ho s _ ⟨id, none, rfl⟩ (show s.port.replies.length ≤ 4 by omega) h1
  · exact ho s _ ⟨_, none, rfl⟩ ((queueReply_replies_le _ _).trans (show s.port.replies.length + 1 ≤ 4 by omega)) (h.reply _ _ hl h1)

theorem Closed.frameOver (h : Closed R) (hs : R s) (f : Port → Port)
    (hf : ∀ p : Port, (f p).replies = p.replies ∧ (f p).reports = p.reports) : R (s.frameOver f) :=
  h.port _ _ hf (h.figuresSettled hs)

theorem Closed.request (h : Closed R) (hs : R s) {α : Type} (seq typ : Byte) (args : Option α)
    (owner : α → State → Ruling) (ho : ∀ a, OwnerKeeps R (owner a)) : R (request seq typ args owner s) := by
  have h1 : R (s.modPort Port.hunt) := h.port _ _ (fun _ => ⟨rfl, rfl⟩) hs
  have hn : ∀ x : Result, OwnerKeeps R fun _ => Ruling.refuse x := fun _ _ _ _ _ hu => hu
  unfold Machine.request
  dsimp only
  refine keep_ite (fun _ => h.frameOver hs _ fun _ => ⟨rfl, rfl⟩) fun _ =>
    keep_ite (fun _ => h.frameOver hs _ fun _ => ⟨rfl, rfl⟩) fun hq => ?_
  have hl : (s.modPort Port.hunt).port.replies.length < 4 := Nat.lt_of_not_le hq
  split
  · exact h.rule h1 seq typ (fun _ => .refuse .length) hl (hn _)
  · refine keep_ite (fun _ => ?_) fun _ => h.rule h1 seq typ _ hl (ho _)
    exact h.rule h1 seq typ (fun _ => .refuse .busy) hl (hn _)

theorem OwnerKeeps.firstRow {rows : State → List (Bool × Ruling)} {o : State → Ruling}
    (hr : ∀ t u, R u → ∀ r ∈ rows t, r.1 = true → R (r.2.effect u)) (ho : OwnerKeeps R o) :
    OwnerKeeps R fun t => firstRow (rows t) (o t) :=
  fun t u e hl hu => firstRow_keep (P := fun r => R (r.effect u)) (hr t u hu) fun _ => ho t u e hl hu

theorem OwnerKeeps.forCar (a : Byte) {o : Car → State → Ruling} (ho : ∀ c, OwnerKeeps R (o c)) :
    OwnerKeeps R fun t => forCar a t fun c => o c t := by
  intro t u e hl hu
  show R ((Machine.forCar a t fun c => o c t).effect u)
  unfold Machine.forCar
  split
  · exact hu
  · split
    · exact hu
    · exact ho _ t u e hl hu

theorem OwnerKeeps.accept {f : State → State} (hf : ∀ u, R u → R (f u)) : OwnerKeeps R fun _ => .accept f :=
  fun _ _ _ _ hu => hf _ hu

theorem OwnerKeeps.done {f : State → State} (hf : ∀ u, R u → R (f u)) : OwnerKeeps R fun _ => .done f :=
  fun _ _ _ _ hu => hf _ hu

/-! ### The configuration store -/

theorem Closed.stateClear (h : Closed R) (hs : R s) (n : Nat) : R (s.beginClear n) := h.report _ _ (h.beginClear _ _ hs)

theorem Closed.startStore (h : Closed R) (hs : R s) (l : List ClassRec) (n : Nat) : R (s.startStore l n) := by
  unfold State.startStore
  repeat' (first | exact hs | with_reducible apply h.charge | with_reducible apply h.stateClear | with_reducible apply h.classes)

theorem Closed.loaded (h : Closed R) (hs : R s) (d : LineDesc) : R (s.loaded d) := by
  unfold State.loaded
  dsimp only
  repeat' (first | exact hs | with_reducible apply h.cfg | with_reducible apply h.enter | with_reducible apply h.trip | with_reducible apply h.configureGates | with_reducible apply h.recompute | with_reducible apply h.startStore | with_reducible apply h.syncCommands | with_reducible apply h.wakeBus | exact fun _ => rfl)

theorem Closed.notLoaded (h : Closed R) (hs : R s) (r : LoadResult) (f : Option (Nat × Nat × Nat)) : R (s.notLoaded r f) := by
  unfold State.notLoaded
  dsimp only
  repeat' (first | exact hs | with_reducible apply h.cfg | with_reducible apply h.report | with_reducible apply h.startStore | with_reducible apply h.syncCommands | with_reducible apply h.wakeBus | exact fun _ => rfl)

theorem Closed.endLoad (h : Closed R) (hs : R s) : R (s.endLoad) := by
  unfold State.endLoad
  repeat' (first | exact hs | with_reducible apply h.loaded | with_reducible apply h.notLoaded | split)

theorem Closed.configWrite (h : Closed R) (hs : R s) (seq : Byte) (p : List Byte) : R (s.configWrite seq p) := by
  refine h.request hs _ _ _ _ fun a t u _ _ hu => ?_
  unfold configWriteOwner
  split
  · exact hu
  · split
    · exact hu
    · split
      · exact hu
      · split
        · exact firstRow_keep (P := fun r => R (r.effect u)) (by simp [Ruling.refuse, hu])
            fun _ => by exact h.cfg u (fun c => { c with draft := c.draft.remove _ a.index }) (fun _ => rfl) hu
        · split
          · exact h.cfg u (fun c => { c with draft := c.draft.write _ a.index a.fields }) (fun _ => rfl) hu
          · exact hu

theorem Closed.configRead (h : Closed R) (hs : R s) (seq : Byte) (p : List Byte) : R (s.configRead seq p) := by
  refine h.request hs _ _ _ _ fun a t u _ _ hu => ?_
  have hr : ∀ d k i, R ((readFrom d k i).effect u) := by
    intro d k i
    unfold readFrom
    split <;> exact hu
  unfold configReadOwner
  split
  · exact hu
  · split
    · exact hu
    · split
      · exact hu
      · split
        · exact hr _ _ _
        · split
          · exact hu
          · exact hr _ _ _

theorem Closed.configCommit (h : Closed R) (hs : R s) (seq : Byte) (p : List Byte) : R (s.configCommit seq p) := by
  refine h.request hs _ _ _ _ fun a t u _ hl hu => ?_
  unfold configCommitOwner
  refine firstRow_keep (P := fun r => R (r.effect u)) (by simp [Ruling.refuse, hu]) fun _ => ?_
  split
  · exact hu
  · exact h.beginWrite _ _ hl hu

theorem Closed.activatePosition (h : Closed R) (hs : R s) (o : Option LineDesc) (n : LineDesc) : R (s.activatePosition o n) := by
  unfold State.activatePosition
  dsimp only
  repeat' (first | exact hs | with_reducible apply h.pos | with_reducible apply h.positionReport | split)

theorem Closed.activationDoor (h : Closed R) (hs : R s) (n : LineDesc) (c : Car) : R (s.activationDoor n c) := by
  unfold State.activationDoor
  repeat' (first | exact hs | with_reducible apply h.withdraw | split)

theorem Closed.activateTrip (h : Closed R) (hs : R s) (n : LineDesc) : R (s.activateTrip n) := by
  unfold State.activateTrip
  dsimp only
  repeat' (first | exact hs | with_reducible apply h.enter | with_reducible apply h.trip | with_reducible apply h.setArrivals | with_reducible apply h.activationDoor | with_reducible apply h.violationTest | with_reducible apply h.syncCommands | with_reducible apply h.tripReport)

theorem Closed.activateBoarding (h : Closed R) (hs : R s) (o : Option LineDesc) (n : LineDesc) :
    R (s.activateBoarding o n) :=
  h.board _ _ (fun _ => ⟨rfl, fun _ => ⟨rfl, rfl, rfl, rfl, rfl, rfl⟩⟩) hs

theorem Closed.activateStore (h : Closed R) (hs : R s) (o : Option LineDesc) (n : LineDesc) : R (s.activateStore o n) := by
  unfold State.activateStore
  repeat' (first | exact hs | with_reducible apply h.charge | with_reducible apply h.beginClear | with_reducible apply h.classes | with_reducible apply h.tick | with_reducible apply h.endClear | with_reducible apply h.cursor | with_reducible apply h.passDelete | with_reducible apply h.denyRemove | with_reducible apply h.flush | with_reducible apply h.cursorSet | with_reducible apply h.startStore | split)

theorem Closed.activate (h : Closed R) (hs : R s) (o : Option LineDesc) (n : LineDesc) : R (s.activate o n) := by
  unfold State.activate
  dsimp only
  repeat' (first | exact hs | with_reducible apply h.activatePosition | with_reducible apply h.activateTrip | with_reducible apply h.recompute | with_reducible apply h.activateBoarding | with_reducible apply h.configureGates | with_reducible apply h.activateStore)

theorem Closed.releaseReply (h : Closed R) (hs : R s) : R s.releaseReply := by
  unfold State.releaseReply
  split
  · exact hs
  · next hh => exact h.release _ _ (by rw [hh]; rfl) hs

theorem Closed.endWrite (h : Closed R) (hs : R s) : R (s.endWrite) := by
  unfold State.endWrite
  dsimp only
  repeat' (first | exact hs | with_reducible apply h.cfg | with_reducible apply h.activate | with_reducible apply h.releaseReply | with_reducible apply h.deferredOpen | with_reducible apply h.wakeBus | with_reducible apply h.settle | exact fun _ => rfl)

/-! ### The trip controller -/

theorem Closed.dispatch (h : Closed R) (hs : R s) (seq : Byte) (p : List Byte) : R (s.dispatch seq p) := by
  refine h.request hs _ _ _ _ fun a => ?_
  intro t u e hl hu
  unfold dispatchOwner
  dsimp only
  refine firstRow_keep (P := fun r => R (r.effect u)) (by simp [Ruling.refuse, hu]) fun _ => ?_
  exact h.settle (h.depart hu _ _ _ _ _)

theorem Closed.recover (h : Closed R) (hs : R s) (seq : Byte) (p : List Byte) : R (s.recover seq p) := by
  refine h.request hs _ _ _ _ fun a => ?_
  intro t u e hl hu
  unfold recoverOwner
  refine firstRow_keep (P := fun r => R (r.effect u)) (by simp [departureRows, Ruling.refuse, hu]) fun _ => ?_
  split
  · exact hu
  · split
    · exact hu
    · split
      · exact hu
      · exact h.settle (h.depart hu _ _ _ _ _)

theorem Closed.referenceRun (h : Closed R) (hs : R s) (seq : Byte) (p : List Byte) : R (s.referenceRun seq p) := by
  refine h.request hs _ _ _ _ fun a => ?_
  intro t u e hl hu
  unfold referenceRunOwner
  refine firstRow_keep (P := fun r => R (r.effect u)) (by simp [departureRows, Ruling.refuse, hu]) fun _ => ?_
  split
  · exact hu
  · exact h.settle (h.depart hu _ _ _ _ _)

theorem Closed.stopRequest (h : Closed R) (hs : R s) (seq : Byte) (p : List Byte) : R (s.stopRequest seq p) := by
  refine h.request hs _ _ _ _ fun a => ?_
  exact OwnerKeeps.accept fun _ hu => h.settle (h.stopTrip hu)

theorem Closed.lowerClass (h : Closed R) (hs : R s) (c : SpeedClass) : R (s.lowerClass c) := by
  unfold State.lowerClass
  dsimp only
  repeat' (first | exact hs | with_reducible apply h.modRecord | with_reducible apply h.classNotice | split)

theorem Closed.setClass (h : Closed R) (hs : R s) (seq : Byte) (p : List Byte) : R (s.setClass seq p) := by
  refine h.request hs _ _ _ _ fun a => ?_
  intro t u e hl hu
  unfold setClassOwner
  split
  · exact hu
  · split
    · exact hu
    · exact hu
    · refine firstRow_keep (P := fun r => R (r.effect u)) (by simp [Ruling.refuse, Ruling.noChange, hu]) fun _ => ?_
      exact h.lowerClass hu _

theorem Closed.driveRecord (h : Closed R) (hs : R s) (r : DriveStatus) : R (s.driveRecord r) := by
  unfold State.driveRecord
  dsimp only
  repeat' (first | exact hs | with_reducible apply h.enter | with_reducible apply h.trip | with_reducible apply h.raise | with_reducible apply h.enterBrakePhase | with_reducible apply h.settle | exact fun _ => ⟨rfl, rfl⟩ | split)

theorem Closed.recordTaken (h : Closed R) (hs : R s) (w : PartnerLink) : R (s.recordTaken w) :=
  h.modWire (h.figuresSettled hs) _ _

/-! ### The brake supervisor and the position monitor -/

theorem Closed.envelopeView (h : Closed R) (hs : R s) : R s.envelopeView := h.calculator _ hs

theorem Closed.ebLiftTest (h : Closed R) (hs : R s) : R (s.ebLiftTest) := by
  unfold State.ebLiftTest
  repeat' (first | exact hs | with_reducible apply h.lifted | with_reducible apply h.hold | with_reducible apply h.capture | with_reducible apply h.service | with_reducible apply h.emergency | with_reducible apply h.applyEb | with_reducible apply h.resetBrake | with_reducible apply h.clearFaults | with_reducible apply h.brake | with_reducible apply h.interventionReport | exact fun _ => ⟨rfl, rfl, rfl, rfl, rfl⟩ | split)

theorem Closed.resetBrakes (h : Closed R) (hs : R s) : R (s.resetBrakes) := by
  unfold State.resetBrakes
  repeat' (first | exact hs | with_reducible apply h.hold | with_reducible apply h.capture | with_reducible apply h.service | with_reducible apply h.emergency | with_reducible apply h.applyEb | with_reducible apply h.resetBrake | with_reducible apply h.clearFaults | with_reducible apply h.brake | with_reducible apply h.interventionReport | with_reducible apply h.ebLiftTest | with_reducible apply h.syncCommands)

theorem Closed.brakeReset (h : Closed R) (hs : R s) (seq : Byte) (p : List Byte) : R (s.brakeReset seq p) := by
  refine h.request hs _ _ _ _ fun a => ?_
  intro t u e hl hu
  unfold brakeResetOwner
  refine firstRow_keep (P := fun r => R (r.effect u)) (by simp [Ruling.refuse, Ruling.noChange, hu]) fun _ => ?_
  exact h.resetBrakes hu

theorem Closed.faultsRead (h : Closed R) (hs : R s) (seq : Byte) (p : List Byte) : R (s.faultsRead seq p) := by
  refine h.request hs _ _ _ _ fun a => ?_
  exact fun t u e hl hu => h.brake u (fun b => { b with interventions := 0 }) (fun _ => ⟨rfl, rfl, rfl, rfl, rfl⟩) hu

theorem Closed.faultsClear (h : Closed R) (hs : R s) (seq : Byte) (p : List Byte) : R (s.faultsClear seq p) := by
  refine h.request hs _ _ _ _ fun a => ?_
  exact OwnerKeeps.accept fun _ hu => h.clearFaults _ hu

/-- R90: a reading of a feedback contact commands nothing. -/
theorem read_command (b : BrakeLine) (x : Contact) : (b.read x).command = b.command := by
  unfold BrakeLine.read
  split
  · rfl
  · split <;> rfl

theorem Closed.feedback (h : Closed R) (hs : R s) (i : BrakeId) (x : Contact) : R (s.feedback i x) := by
  have h1 := h.line s i _ (fun b => read_command b x) hs
  unfold State.feedback
  dsimp only
  split
  · exact h.ebLiftTest h1
  · exact h.settle (h.authorityTests (keep_ite (fun _ => h.lifted h1) fun _ => h1))

theorem Closed.stuck (h : Closed R) (hs : R s) (i : BrakeId) : R (s.stuck i) := by
  unfold State.stuck
  exact h.settle (h.takeCause (h.line s i _ (fun _ => by rfl) hs) _)

theorem Closed.monitorSample (h : Closed R) (hs : R s) (d : LineDesc) : R (s.monitorSample d) := by
  unfold State.monitorSample
  dsimp only
  repeat' (first | exact hs | with_reducible apply h.pos | with_reducible apply h.raiseAll | with_reducible apply h.positionReport | split)

theorem Closed.viewTask (h : Closed R) (hs : R s) (n : Nat) : R (viewTask n s) := by
  unfold Machine.viewTask
  split
  · exact h.doorTests hs
  · exact h.settle hs
  · exact h.brakeResult hs
  · exact h.tripView hs

theorem Closed.runTasks (h : Closed R) (ks : List Nat) : ∀ (l : List Nat) {s}, R s → R (Machine.runTasks ks l s) := by
  induction ks with
  | nil => exact fun _ _ hs => hs
  | cons k ks ih => exact fun l _ hs => ih _ (h.viewTask hs _)

theorem Closed.calculate (h : Closed R) (hs : R s) (b : Bool) : R (s.calculate b) := by
  unfold State.calculate
  exact keep_ite (fun _ => h.envelopeView (h.settle hs)) fun _ => h.envelopeView hs

theorem Closed.sampleWith (h : Closed R) (hs : R s) (d : LineDesc) (b : Bool) (l : List Nat) : R (s.sampleWith d b l) :=
  h.settle (h.runTasks _ _ (h.calculate (h.monitorSample (h.figuresSettled hs) d) _))

theorem Closed.sample (h : Closed R) (hs : R s) (d : LineDesc) : R (s.sample d) := h.sampleWith (h.draws _ _ hs) _ _ _

theorem Closed.markEvent (h : Closed R) (hs : R s) (d : LineDesc) (n : Nat) : R (s.markEvent d n) := by
  unfold State.markEvent
  dsimp only
  repeat' (first | exact hs | with_reducible apply h.pos | with_reducible apply h.raiseAll | with_reducible apply h.positionReport | with_reducible apply h.markFound | with_reducible apply h.settle | split)

/-! ### Car links and doors -/

theorem Closed.doorReports (h : Closed R) (hs : R s) (c : Car) (l r : DoorReport) : R (s.doorReports c l r) := by
  have h1 : R (s.modDoor c fun d => { d with left := l, right := r }) := h.sides _ _ _ (fun _ => rfl) hs
  unfold State.doorReports
  dsimp only
  refine h.violationTest ?_ _
  split
  · exact h.reportInCycle h1 _ _
  · exact keep_ite (fun _ => h.completeCycle h1 _) fun _ => h1
  · exact h.deriveDoor h1 _

theorem Closed.carFlags (h : Closed R) (hs : R s) (seq : Byte) (p : List Byte) : R (s.carFlags seq p) := by
  refine h.request hs _ _ _ _ fun a => ?_
  intro t u e hl hu
  unfold carFlagsOwner
  split
  · exact h.syncCommand (h.linkData _ _ _ (fun _ => by rfl) hu) _
  · exact hu

theorem Closed.setOnboard (h : Closed R) (hs : R s) (seq : Byte) (p : List Byte) : R (s.setOnboard seq p) := by
  refine h.request hs _ _ _ _ fun a => ?_
  intro t u e hl hu
  unfold setOnboardOwner
  split
  · exact hu
  · split
    · exact hu
    · exact h.recompute (h.linkData _ _ _ (fun _ => by rfl) hu)

theorem Closed.linkStep (h : Closed R) (hs : R s) (c : Car) : R (s.linkStep c) := by
  have h1 := h.linkLive s c (fun l => { l with live := true, liveness := some livenessMs }) (fun _ => rfl) hs
  unfold State.linkStep
  exact keep_ite (fun _ => h1) fun _ => h.authorityTests (h.drop _ (h.doorReport (h.linkDoor h1 _) _ _))

theorem Closed.tagStep (h : Closed R) (hs : R s) (c : Car) (n : Nat) : R (s.tagStep c n) := by
  unfold State.tagStep
  dsimp only
  repeat' (first | exact hs | with_reducible apply h.linkData | with_reducible apply h.emptySlot | exact fun _ => rfl | split)

theorem Closed.boardingChange (h : Closed R) (hs : R s) (c : Car) (i o : Nat) : R (s.boardingChange c i o) := by
  unfold State.boardingChange
  exact h.recompute (h.linkData _ _ _ (fun _ => rfl) hs)

theorem Closed.deltaStep (h : Closed R) (hs : R s) (c : Car) (i o : Nat) (b : Bool) : R (s.deltaStep c i o b) := by
  unfold State.deltaStep
  dsimp only
  have h1 : R (if b then s.boardingChange c i o else s.inDelta c i) :=
    keep_ite (fun _ => h.boardingChange hs _ _ _) fun _ => h.inDelta hs _ _
  exact keep_ite (fun _ => h.inDelta (h.load _ _ h1) _ _) fun _ => h.boardingChange (h.load _ _ h1) _ _ _

theorem Closed.counterStep (h : Closed R) (hs : R s) (c : Car) (r : CarStatus) : R (s.counterStep c r) := by
  unfold State.counterStep
  dsimp only
  repeat' (first | exact hs | with_reducible apply h.linkData | with_reducible apply h.boardingChange | with_reducible apply h.deltaStep | with_reducible apply h.afterPick | exact fun _ => rfl | split)

theorem Closed.weighStep (h : Closed R) (hs : R s) (c : Car) (w : Option (BitVec 16)) : R (s.weighStep c w) := by
  unfold State.weighStep
  dsimp only
  repeat' (first | exact hs | with_reducible apply h.linkData | with_reducible apply h.countWeigh | with_reducible apply h.recompute | exact fun _ => rfl)

theorem Closed.attendantChange (h : Closed R) (hs : R s) (c : Car) (a : Attendant) (b : Attendant) : R (s.attendantChange c a b) := by
  unfold State.attendantChange
  dsimp only
  repeat' (first | exact hs | with_reducible apply h.doorReport | with_reducible apply h.alarm | with_reducible apply h.holdRecheck | split)

theorem Closed.flagStep (h : Closed R) (hs : R s) (c : Car) (a : Attendant) (f : CarFaults) : R (s.flagStep c a f) := by
  unfold State.flagStep
  dsimp only
  repeat' (first | exact hs | with_reducible apply h.linkData | with_reducible apply h.doorReport | with_reducible apply h.attendantChange | exact fun _ => rfl | split)

theorem Closed.carRecord (h : Closed R) (hs : R s) (c : Car) (r : CarStatus) : R (s.carRecord c r) := by
  unfold State.carRecord
  repeat' (first | exact hs | with_reducible apply h.figuresSettled | with_reducible apply h.linkStep | with_reducible apply h.tagStep | with_reducible apply h.counterStep | with_reducible apply h.weighStep | with_reducible apply h.flagStep | with_reducible apply h.doorReports | with_reducible apply h.settle)

theorem Closed.loseLink (h : Closed R) (hs : R s) (c : Car) : R (s.loseLink c) := by
  unfold State.loseLink
  dsimp only
  refine h.settle (h.holdRecheck (h.authorityTests (h.doorReport (h.recompute (h.syncCommand ?_ _)) _ _)))
  split
  · exact h.loseRun _ _ _ hs
  · exact h.lose _ _ hs

theorem Closed.doorRelease (h : Closed R) (hs : R s) (seq : Byte) (p : List Byte) : R (s.doorRelease seq p) := by
  refine h.request hs _ _ _ _ fun a => ?_
  refine OwnerKeeps.forCar a fun c t u e hl hu => ?_
  split
  · exact hu
  · split
    · exact h.settle (h.grant hu _ _)
    · exact hu

theorem Closed.openDoors (h : Closed R) (hs : R s) (c : Car) : R (s.openDoors c) := by
  unfold State.openDoors
  dsimp only
  repeat' (first | exact hs | with_reducible apply h.placeCommand | with_reducible apply h.endCycle | split)

theorem Closed.doorOpen (h : Closed R) (hs : R s) (seq : Byte) (p : List Byte) : R (s.doorOpen seq p) := by
  refine h.request hs _ _ _ _ fun a => ?_
  refine OwnerKeeps.forCar a fun c t u e hl hu => ?_
  refine firstRow_keep (P := fun r => R (r.effect u)) (by simp [Ruling.refuse, hu]) fun _ => ?_
  exact h.settle (h.openDoors hu _)

theorem Closed.clearArrival (h : Closed R) (hs : R s) (c : Car) : R (s.clearArrival c) := h.door _ _ _ (fun _ => rfl) hs

theorem Closed.closeDoors (h : Closed R) (hs : R s) (c : Car) : R (s.closeDoors c) := by
  unfold State.closeDoors
  dsimp only
  repeat' (first | exact hs | with_reducible apply h.clearArrival | with_reducible apply h.withdraw | with_reducible apply h.startCycle | exact fun _ => rfl | split)

theorem Closed.doorClose (h : Closed R) (hs : R s) (seq : Byte) (p : List Byte) : R (s.doorClose seq p) := by
  refine h.request hs _ _ _ _ fun a => ?_
  refine OwnerKeeps.forCar a fun c t u e hl hu => ?_
  refine firstRow_keep (P := fun r => R (r.effect u)) (by simp [Ruling.refuse, hu, h.clearArrival hu]) fun _ => ?_
  exact h.settle (h.closeDoors hu _)

theorem Closed.cancelDoors (h : Closed R) (hs : R s) (c : Car) : R (s.cancelDoors c) := by
  unfold State.cancelDoors
  repeat' (first | exact hs | with_reducible apply h.linkData | with_reducible apply h.sendCommand | with_reducible apply h.endCycle | exact fun _ => rfl)

theorem Closed.doorCancel (h : Closed R) (hs : R s) (seq : Byte) (p : List Byte) : R (s.doorCancel seq p) := by
  refine h.request hs _ _ _ _ fun a => ?_
  refine OwnerKeeps.forCar a fun c t u e hl hu => ?_
  refine firstRow_keep (P := fun r => R (r.effect u)) (by simp [Ruling.refuse, Ruling.noChange, hu]) fun _ => ?_
  exact h.settle (h.cancelDoors hu _)

/-! ### Boarding and gates -/

theorem Closed.windowOpen (h : Closed R) (hs : R s) (seq : Byte) (p : List Byte) : R (s.windowOpen seq p) := by
  refine h.request hs _ _ _ _ fun a => ?_
  intro t u e hl hu
  unfold windowOpenOwner
  split
  · exact hu
  · unfold forCar
    split
    · exact hu
    · split
      · exact hu
      · next c _ =>
        refine firstRow_keep (P := fun r => R (r.effect u)) (by simp [Ruling.refuse, Ruling.noChange, hu]) fun hr => ?_
        obtain ⟨f, x, rfl⟩ := e
        refine h.openWindow hu _ ?_
        simp only [List.forall_mem_cons] at hr
        have h1 := hr.1
        have h2 := hr.2.1
        show (t.window c).state = .shut
        cases hw : (t.window c).state <;> simp_all

theorem Closed.windowClose (h : Closed R) (hs : R s) (seq : Byte) (p : List Byte) : R (s.windowClose seq p) := by
  refine h.request hs _ _ _ _ fun a => ?_
  refine OwnerKeeps.forCar a fun c t u e hl hu => ?_
  split
  · exact h.settle (h.closeWindow hu _ _)
  · exact hu

theorem Closed.clearCarry (h : Closed R) (hs : R s) (p : Nat) : R (s.clearCarry p) :=
  h.windowReport (h.carry hs fun l => l.set p 0) _ _ _

theorem Closed.carryClear (h : Closed R) (hs : R s) (seq : Byte) (p : List Byte) : R (s.carryClear seq p) := by
  refine h.request hs _ _ _ _ fun a => ?_
  intro t u e hl hu
  unfold carryClearOwner
  dsimp only
  refine firstRow_keep (P := fun r => R (r.effect u)) (by simp [Ruling.refuse, hu]) fun _ => ?_
  exact h.clearCarry hu _

theorem Closed.passageTimeout (h : Closed R) (hs : R s) (g : Nat) : R (s.passageTimeout g) := by
  unfold State.passageTimeout
  split
  · exact hs
  · next hg => exact h.settle (h.endGrant (h.figuresSettled hs) _ _ (grantAt_mem hg))

theorem Closed.gateEnable (h : Closed R) (hs : R s) (seq : Byte) (p : List Byte) : R (s.gateEnable seq p) := by
  refine h.request hs _ _ _ _ fun a => ?_
  intro t u e hl hu
  unfold gateEnableOwner
  dsimp only
  refine firstRow_keep (P := fun r => R (r.effect u)) (by simp [Ruling.refuse, Ruling.noChange, hu]) fun _ => ?_
  show R (if _ then u.enableGate _ else (u.disableGate _).settle)
  exact keep_ite (fun _ => h.enableGate hu _) fun _ => h.settle (h.disableGate hu _)

theorem Closed.nothingAnswer (h : Closed R) (hs : R s) (g : Nat) : R (s.nothingAnswer g) :=
  h.answer hs _ _ _ (fun _ ht => ht) fun _ ht => ht

theorem Closed.presented (h : Closed R) (hs : R s) (g : Nat) (x : Credential) : R (s.presented g x) :=
  h.answer hs _ _ _ (fun _ ht => h.verdict ht _ _ _) fun _ ht => h.presentAnswer ht _ _

theorem Closed.passedAnswer (h : Closed R) (hs : R s) (g : Nat) : R (s.passedAnswer g) :=
  h.answer hs _ _ _ (fun _ ht => ht) fun _ ht => h.passageAnswer ht _ _

theorem Closed.abandonedAnswer (h : Closed R) (hs : R s) (g : Nat) : R (s.abandonedAnswer g) :=
  h.answer hs _ _ _ (fun _ ht => ht) fun _ ht => h.passageAnswer ht _ _

theorem Closed.gateFault (h : Closed R) (hs : R s) (g c : Nat) : R (s.gateFault g c) :=
  h.answer hs _ _ _ (fun _ ht => ht) fun _ ht => h.faultAnswer ht _ _

/-! ### The credential store -/

theorem Closed.passLoadRequest (h : Closed R) (hs : R s) (seq : Byte) (p : List Byte) : R (s.passLoad seq p) := by
  refine h.request hs _ _ _ _ fun a => ?_
  intro t u e hl hu
  obtain ⟨f, x, rfl⟩ := e
  have hload : ∀ b, ((t.store.pass? a.id).isSome ∨ t.store.passes.length < passCapacity t.store.plan) →
      R ((⟨b, changeStore fun c => c.load a⟩ : Ruling).effect
        ((t.modLoad fun e => { e with passing := x }).modPort f)) := fun b hc => h.passLoad _ _ hc hu
  unfold passLoadOwner
  dsimp only
  refine firstRow_keep (P := fun r => R (r.effect ((t.modLoad fun e => { e with passing := x }).modPort f))) ?_
    fun hr => ?_
  · intro r hr ht
    simp only [storeRows, List.cons_append, List.nil_append, List.mem_cons, List.not_mem_nil, or_false] at hr
    rcases hr with rfl | rfl | rfl | rfl | rfl | rfl
    all_goals first | exact hu | exact hload _ (.inl ht)
  · refine hload _ (.inr ?_)
    have := hr (decide (passCapacity t.store.plan ≤ t.store.passes.length), .refuse .full) (by simp)
    simpa using this

theorem Closed.passDeleteRequest (h : Closed R) (hs : R s) (seq : Byte) (p : List Byte) : R (s.passDelete seq p) := by
  refine h.request hs _ _ _ _ fun a => ?_
  intro t u e hl hu
  exact firstRow_keep (P := fun r => R (r.effect u)) (by simp [storeRows, Ruling.refuse, hu]) fun _ => h.passDelete _ _ hu

theorem Closed.passRead (h : Closed R) (hs : R s) (seq : Byte) (p : List Byte) : R (s.passRead seq p) := by
  refine h.request hs _ _ _ _ fun a => ?_
  intro t u e hl hu
  exact firstRow_keep (P := fun r => R (r.effect u)) (by simp [storeRows, Ruling.refuse, hu]) fun _ => h.cursor _ _ hu

theorem Closed.cursorSetRequest (h : Closed R) (hs : R s) (seq : Byte) (p : List Byte) : R (s.cursorSet seq p) := by
  refine h.request hs _ _ _ _ fun a => ?_
  intro t u e hl hu
  exact firstRow_keep (P := fun r => R (r.effect u)) (by simp [storeRows, Ruling.refuse, hu]) fun _ => h.cursorSet _ _ _ hu

theorem Closed.denyAddRequest (h : Closed R) (hs : R s) (seq : Byte) (p : List Byte) : R (s.denyAdd seq p) := by
  refine h.request hs _ _ _ _ fun a => ?_
  intro t u e hl hu
  unfold denyAddOwner
  split
  · exact firstRow_keep (P := fun r => R (r.effect u)) (by simp [storeRows, Ruling.refuse, hu]) fun _ => hu
  · next x _ =>
    refine firstRow_keep (P := fun r => R (r.effect u)) (by simp [storeRows, Ruling.refuse, hu]) fun hr => ?_
    obtain ⟨f, y, rfl⟩ := e
    have h1 := hr (t.store.deny.contains x, .refuse .duplicate) (by simp)
    have h2 := hr (decide (Config.denySize ≤ t.store.deny.length), .refuse .full) (by simp)
    exact h.denyAdd _ _ (by simpa using h1) (by simpa using h2) hu

theorem Closed.denyRemoveRequest (h : Closed R) (hs : R s) (seq : Byte) (p : List Byte) : R (s.denyRemove seq p) := by
  refine h.request hs _ _ _ _ fun a => ?_
  intro t u e hl hu
  unfold denyRemoveOwner
  split
  · exact firstRow_keep (P := fun r => R (r.effect u)) (by simp [storeRows, Ruling.refuse, hu]) fun _ => hu
  · exact firstRow_keep (P := fun r => R (r.effect u)) (by simp [storeRows, Ruling.refuse, hu]) fun _ => h.denyRemove _ _ hu

theorem Closed.tokenFlush (h : Closed R) (hs : R s) (seq : Byte) (p : List Byte) : R (s.tokenFlush seq p) := by
  refine h.request hs _ _ _ _ fun a => ?_
  intro t u e hl hu
  exact firstRow_keep (P := fun r => R (r.effect u)) (by simp [storeRows, Ruling.refuse, hu]) fun _ => h.flush _ hu

theorem Closed.storePlan (h : Closed R) (hs : R s) (seq : Byte) (p : List Byte) : R (s.storePlan seq p) := by
  refine h.request hs _ _ _ _ fun a => ?_
  intro t u e hl hu
  unfold storePlanOwner
  refine firstRow_keep (P := fun r => R (r.effect u)) (by simp [Ruling.refuse, hu]) fun _ => ?_
  exact h.stateClear hu _

theorem be16_le (x y : Byte) : be16 x y ≤ 65535 := by
  unfold be16
  have := x.isLt
  have := y.isLt
  omega

theorem wordPayload_le {p : List Byte} {n : Nat} (hp : wordPayload p = some n) : n ≤ 65535 := by
  unfold wordPayload at hp
  split at hp
  · cases hp; exact be16_le _ _
  · cases hp

/-- A request whose payload is read as one value is owned by that value alone. -/
theorem request_congr {α : Type} (seq typ : Byte) (args : Option α) {o o' : α → State → Ruling}
    (hoo : ∀ a, args = some a → o a = o' a) (s : State) : request seq typ args o s = request seq typ args o' s := by
  cases args with
  | none => rfl
  | some a => simp only [request, hoo a rfl]

theorem Closed.setDay (h : Closed R) (hs : R s) (seq : Byte) (p : List Byte) : R (s.setDay seq p) := by
  have e := request_congr seq 0x38#8 (wordPayload p) (o := setDayOwner)
    (o' := fun n t => if n ≤ 65535 then setDayOwner n t else .refuse .range)
    (fun n hn => by funext t; rw [if_pos (wordPayload_le hn)]) s
  unfold State.setDay
  rw [e]
  refine h.request hs _ _ _ _ fun a t u _ _ hu => ?_
  split
  · next ha => exact h.day _ _ ha hu
  · exact hu

theorem Closed.setClock (h : Closed R) (hs : R s) (seq : Byte) (p : List Byte) : R (s.setClock seq p) := by
  refine h.request hs _ _ _ _ fun a => ?_
  intro t u e hl hu
  unfold setClockOwner
  split
  · exact hu
  · next ha => exact h.clock _ _ (by omega) hu

theorem Closed.stateEndClear (h : Closed R) (hs : R s) : R (s.endClear) := by
  unfold State.endClear
  repeat' (first | exact hs | with_reducible apply h.charge | with_reducible apply h.beginClear | with_reducible apply h.classes | with_reducible apply h.tick | with_reducible apply h.endClear | with_reducible apply h.cursor | with_reducible apply h.passDelete | with_reducible apply h.denyRemove | with_reducible apply h.flush | with_reducible apply h.cursorSet | with_reducible apply h.report)

/-! ### The links -/

theorem Closed.statusRequest (h : Closed R) (hs : R s) (seq : Byte) (p : List Byte) : R (s.statusRequest seq p) := by
  refine h.request hs _ _ _ _ fun a => ?_
  intro t u e hl hu
  unfold statusOwner
  dsimp only
  split
  · exact hu
  · exact h.draws _ _ (h.port _ _ (fun _ => by exact ⟨rfl, rfl⟩) hu)

theorem Closed.restart (h : Closed R) (hs : R s) (seq : Byte) (p : List Byte) : R (s.restart seq p) := by
  refine h.request hs _ _ _ _ fun a => ?_
  intro t u e hl hu
  unfold restartOwner
  split
  · exact hu
  · exact h.port _ (fun p => { p with restarting := true }) (fun _ => ⟨rfl, rfl⟩) hu

theorem Closed.unknownFrame (h : Closed R) (hs : R s) (seq typ : Byte) : R (s.unknownFrame seq typ) := by
  have hp : ∀ f : Port → Port, (∀ p, (f p).replies = p.replies ∧ (f p).reports = p.reports) → R (s.frameOver f) :=
    h.frameOver hs
  unfold State.unknownFrame
  refine keep_ite (fun _ => hp _ fun _ => ⟨rfl, rfl⟩) fun _ => keep_ite (fun _ => hp _ fun _ => ⟨rfl, rfl⟩) fun hq => ?_
  simp only [Bool.or_eq_true, decide_eq_true_eq, not_or] at hq
  exact h.reply _ _ (Nat.lt_of_not_le hq.2) (hp _ fun _ => ⟨rfl, rfl⟩)

theorem Closed.discardFrame (h : Closed R) (hs : R s) : R s.discardFrame :=
  keep_ite (fun _ => h.frameOver hs _ fun _ => ⟨rfl, rfl⟩) fun _ => h.frameOver hs _ fun _ => ⟨rfl, rfl⟩

theorem Closed.frameSent (h : Closed R) (hs : R s) : R s.frameSent :=
  keep_ite (fun _ => h.reset _ hs) fun _ => h.sent _ (h.figuresSettled hs)

theorem Closed.failedRecord (h : Closed R) (hs : R s) (w : PartnerLink) : R (s.failedRecord w) := by
  unfold State.failedRecord
  repeat' (first | exact hs | with_reducible apply h.pollFails | with_reducible apply h.linkData | exact fun _ => rfl | split)

theorem Closed.takeRequest (h : Closed R) (hs : R s) (typ seq : Byte) (p : List Byte) : R (s.takeRequest typ seq p) := by
  unfold State.takeRequest
  split
  · exact h.configWrite hs _ _
  · exact h.configRead hs _ _
  · exact h.configCommit hs _ _
  · exact h.dispatch hs _ _
  · exact h.stopRequest hs _ _
  · exact h.recover hs _ _
  · exact h.referenceRun hs _ _
  · exact h.setClass hs _ _
  · exact h.brakeReset hs _ _
  · exact h.faultsRead hs _ _
  · exact h.faultsClear hs _ _
  · exact h.doorRelease hs _ _
  · exact h.doorOpen hs _ _
  · exact h.doorClose hs _ _
  · exact h.doorCancel hs _ _
  · exact h.carFlags hs _ _
  · exact h.setOnboard hs _ _
  · exact h.windowOpen hs _ _
  · exact h.windowClose hs _ _
  · exact h.carryClear hs _ _
  · exact h.gateEnable hs _ _
  · exact h.passLoadRequest hs _ _
  · exact h.passDeleteRequest hs _ _
  · exact h.passRead hs _ _
  · exact h.cursorSetRequest hs _ _
  · exact h.denyAddRequest hs _ _
  · exact h.denyRemoveRequest hs _ _
  · exact h.tokenFlush hs _ _
  · exact h.storePlan hs _ _
  · exact h.setDay hs _ _
  · exact h.setClock hs _ _
  · exact h.statusRequest hs _ _
  · exact h.restart hs _ _
  · exact h.unknownFrame hs _ _

theorem Closed.takeFrame (h : Closed R) (hs : R s) (n : Nat) (l : List Byte) : R (s.takeFrame n l) := by
  unfold State.takeFrame
  split
  · split
    · exact h.takeRequest hs _ _ _
    · exact h.discardFrame hs
  · exact h.discardFrame hs

theorem Closed.takeByte (h : Closed R) (hs : R s) (b : Byte) : R (s.takeByte b) := by
  have h1 : ∀ a, R (s.modPort fun p => { p with rx := a }) := fun _ => h.port _ _ (fun _ => ⟨rfl, rfl⟩) hs
  unfold State.takeByte
  dsimp only
  split
  · exact h1 _
  · exact h.discardFrame (h1 _)
  · exact h.takeFrame (h1 _) _ _

/-- A record that a link takes, where it is valid there, keeps the property. -/
def keepsAll (R : State → Prop) (o : Option State) : Prop := ∀ t, o = some t → R t

theorem keepsAll_map {α : Type} {f : α → State} (hf : ∀ a, R (f a)) (o : Option α) : keepsAll R (o.map f) := by
  intro t ht
  cases o with
  | none => cases ht
  | some a => cases ht; exact hf a

theorem Closed.gateRecord (h : Closed R) (hs : R s) (k : Nat) (l : List Byte) : keepsAll R (s.gateRecord k l) := by
  unfold State.gateRecord
  split
  · exact keepsAll_map (fun _ => h.nothingAnswer hs _) _
  · intro t ht
    obtain ⟨g, -, ht⟩ := Option.bind_eq_some_iff.1 ht
    exact keepsAll_map (fun _ => h.presented hs _ _) _ t ht
  · exact keepsAll_map (fun _ => h.passedAnswer hs _) _
  · exact keepsAll_map (fun _ => h.abandonedAnswer hs _) _
  · exact keepsAll_map (fun _ => h.gateFault hs _ _) _
  · intro t ht; cases ht

theorem Closed.linkRecord (h : Closed R) (hs : R s) (w : PartnerLink) (k : Nat) (l : List Byte) :
    keepsAll R (s.linkRecord w k l) := by
  unfold State.linkRecord
  split
  · exact h.gateRecord hs _ _
  · exact keepsAll_map (fun _ => h.carRecord hs _ _) _
  · exact keepsAll_map (fun _ => h.carRecord hs _ _) _
  · exact keepsAll_map (fun _ => h.driveRecord hs _) _
  · intro t ht; cases ht

theorem Closed.invalidRecord (h : Closed R) (hs : R s) (w : PartnerLink) (l : List Byte) : R (s.invalidRecord w l) := by
  unfold State.invalidRecord
  exact keep_ite (fun _ => hs) fun _ => h.failedRecord hs _

theorem Closed.takeRecord (h : Closed R) (hs : R s) (w : PartnerLink) (n : Nat) (l : List Byte) :
    R (s.takeRecord w n l) := by
  unfold State.takeRecord
  split
  · split
    · next k fs _ =>
      cases hr : s.linkRecord w k.toNat fs with
      | none => exact h.invalidRecord hs _ _
      | some t => exact h.linkRecord hs _ _ _ t hr
    · exact h.failedRecord hs _
  · exact h.failedRecord hs _

theorem Closed.takeLinkByte (h : Closed R) (hs : R s) (w : PartnerLink) (b : Byte) : R (s.takeLinkByte w b) := by
  unfold State.takeLinkByte
  dsimp only
  split
  · exact h.modWire hs _ _
  · exact h.failedRecord (h.recordTaken hs _) _
  · exact h.takeRecord (h.recordTaken hs _) _ _ _

/-- Every command keeps the property. -/
theorem Closed.exec (h : Closed R) (hs : R s) (c : Instr) {t : State} (ht : exec c s = .next t) : R t := by
  cases c with
  | reset => cases ht; exact (h.reset _ hs)
  | loadEnd => cases ht; exact (keep_ite (fun _ => h.endLoad (h.figuresSettled hs)) fun _ => hs)
  | configWrite seq p => cases ht; exact (h.configWrite hs _ _)
  | configRemove seq p => cases ht; exact (h.configWrite hs _ _)
  | configRead seq p => cases ht; exact (h.configRead hs _ _)
  | configCommit seq p => cases ht; exact (h.configCommit hs _ _)
  | imageWriteEnd => cases ht; exact (keep_ite (fun _ => h.endWrite (h.figuresSettled hs)) fun _ => hs)
  | dispatch seq p => cases ht; exact (h.dispatch hs _ _)
  | stop seq p => cases ht; exact (h.stopRequest hs _ _)
  | recover seq p => cases ht; exact (h.recover hs _ _)
  | referenceRun seq p => cases ht; exact (h.referenceRun hs _ _)
  | setClass seq p => cases ht; exact (h.setClass hs _ _)
  | brakeReset seq p => cases ht; exact (h.brakeReset hs _ _)
  | faultsRead seq p => cases ht; exact (h.faultsRead hs _ _)
  | faultsClear seq p => cases ht; exact (h.faultsClear hs _ _)
  | doorRelease seq p => cases ht; exact (h.doorRelease hs _ _)
  | doorOpen seq p => cases ht; exact (h.doorOpen hs _ _)
  | doorClose seq p => cases ht; exact (h.doorClose hs _ _)
  | doorCancel seq p => cases ht; exact (h.doorCancel hs _ _)
  | carFlags seq p => cases ht; exact (h.carFlags hs _ _)
  | setOnboard seq p => cases ht; exact (h.setOnboard hs _ _)
  | windowOpen seq p => cases ht; exact (h.windowOpen hs _ _)
  | windowClose seq p => cases ht; exact (h.windowClose hs _ _)
  | carryClear seq p => cases ht; exact (h.carryClear hs _ _)
  | gateEnable seq p => cases ht; exact (h.gateEnable hs _ _)
  | passLoad seq p => cases ht; exact (h.passLoadRequest hs _ _)
  | passDelete seq p => cases ht; exact (h.passDeleteRequest hs _ _)
  | passRead seq p => cases ht; exact (h.passRead hs _ _)
  | cursorSet seq p => cases ht; exact (h.cursorSetRequest hs _ _)
  | denyAdd seq p => cases ht; exact (h.denyAddRequest hs _ _)
  | denyRemove seq p => cases ht; exact (h.denyRemoveRequest hs _ _)
  | tokenFlush seq p => cases ht; exact (h.tokenFlush hs _ _)
  | storePlan seq p => cases ht; exact (h.storePlan hs _ _)
  | setDay seq p => cases ht; exact (h.setDay hs _ _)
  | setClock seq p => cases ht; exact (h.setClock hs _ _)
  | status seq p => cases ht; exact (h.statusRequest hs _ _)
  | restart seq p => cases ht; exact (h.restart hs _ _)
  | unknownRequest seq t => cases ht; exact (h.unknownFrame hs _ _)
  | discardedFrame w => cases ht; exact (h.discardFrame hs)
  | byteGapTimeout => cases ht; exact (keep_ite (fun _ => h.discardFrame hs) fun _ => hs)
  | frameSent => cases ht; exact (keep_ite (fun _ => h.frameSent hs) fun _ => hs)
  | encoderCount c d => cases ht; exact (h.pos _ _ (h.figuresSettled hs))
  | sample =>
    cases ht; refine ?_
    split
    · exact hs
    · exact keep_ite (fun _ => hs) fun _ => h.sample hs _
  | markEvent n =>
    cases ht; refine ?_
    split
    · exact hs
    · exact h.markEvent (h.figuresSettled hs) _ _
  | brakeFeedback i x => cases ht; exact (keep_ite (fun _ => hs) fun _ => h.feedback (h.figuresSettled hs) _ _)
  | applyTimerExpiry i => cases ht; exact (keep_ite (fun _ => h.stuck (h.figuresSettled hs) _) fun _ => hs)
  | escalationTimerExpiry =>
    cases ht; refine (keep_ite (fun _ => ?_) fun _ => hs)
    exact h.settle (h.escalationCheck (h.brake _ _ (fun _ => ⟨rfl, rfl, rfl, rfl, rfl⟩) (h.figuresSettled hs)))
  | ebLiftTimeout => cases ht; exact (keep_ite (fun _ => h.settle (h.takeCause (h.applyEb _ (h.figuresSettled hs)) _)) fun _ => hs)
  | tPrepExpiry => cases ht; exact (keep_ite (fun _ => h.settle (h.abandon (h.figuresSettled hs) _)) fun _ => hs)
  | tLiftExpiry => cases ht; exact (keep_ite (fun _ => h.settle (h.failLift (h.figuresSettled hs))) fun _ => hs)
  | driveStatus r => cases ht; exact (h.driveRecord (h.recordTaken hs _) _)
  | carStatus c r => cases ht; exact (h.carRecord (h.recordTaken hs _) _ _)
  | livenessTimerExpiry c => cases ht; exact (keep_ite (fun _ => h.loseLink (h.figuresSettled hs) _) fun _ => hs)
  | carCommandTimer c => cases ht; exact (h.sendCommand (h.figuresSettled hs) _)
  | weighExpiry c => cases ht; exact (h.recompute (h.linkData _ _ _ (fun _ => rfl) (h.figuresSettled hs)))
  | tCloseExpiry c => cases ht; exact (keep_ite (fun _ => h.settle (h.enterHeld (h.figuresSettled hs) _ _)) fun _ => hs)
  | nothing g => cases ht; exact (h.nothingAnswer (h.recordTaken hs _) _)
  | present g x => cases ht; exact (h.presented (h.recordTaken hs _) _ _)
  | creditRequest g => cases ht; exact (h.creditStep hs _)
  | passed g => cases ht; exact (h.passedAnswer (h.recordTaken hs _) _)
  | abandoned g => cases ht; exact (h.abandonedAnswer (h.recordTaken hs _) _)
  | gateFault g c => cases ht; exact (h.gateFault (h.recordTaken hs _) _ _)
  | pollTimeout => cases ht; exact (h.pollFails hs _)
  | passageTimeout g => cases ht; exact (h.passageTimeout hs _)
  | clockTick => cases ht; exact (h.tick _ (h.figuresSettled hs))
  | storeClearEnd => cases ht; exact (keep_ite (fun _ => h.stateEndClear (h.figuresSettled hs)) fun _ => hs)
  | invalidLinkRecord w => cases ht; exact (h.failedRecord (h.recordTaken hs _) _)
  | linkGapTimeout w => cases ht; exact (keep_ite (fun _ => h.failedRecord (h.recordTaken hs _) _) fun _ => hs)
  | linkRecordSent w => cases ht; exact (h.modWire (h.figuresSettled hs) _ _)
  | incomingByte b => cases ht; exact (h.takeByte hs _)
  | linkIncomingByte w b => cases ht; exact (h.takeLinkByte hs _ _)

/-- Every step keeps a property that does not read the queue. -/
theorem Closed.step (h : Closed R) (hq : ∀ s (q : List Instr), R s → R { s with pending := q }) (hs : R s) {t : State}
    (ht : step s = .next t) : R t := by
  unfold Machine.step at ht
  split at ht
  · cases ht; exact hs
  · exact h.exec (hq _ _ hs) _ ht

end Sys2Proof.Laws
end

