-- ==== Sys2Proof/Tests/Slice0.lean ====
section
/-! SUPPORT. Tests: ill-formed commands, the manual's own worked examples, and for each statement a state and operands
that meet its hypotheses. -/

namespace Sys2Proof.Tests

open Sys2Proof Sys2Proof.Machine

set_option Elab.async false

/-! ### Which commands are well-formed -/

theorem test_wf_payload_250 : (Instr.dispatch 0 (List.replicate 250 0)).wellFormed = true := by decide +kernel
theorem test_wf_payload_251 : (Instr.dispatch 0 (List.replicate 251 0)).wellFormed = false := by decide +kernel
theorem test_wf_write_with_remove_flag : (Instr.configWrite 0 [1, 0, 1, 0]).wellFormed = false := by decide
theorem test_wf_remove_without_flag : (Instr.configRemove 0 [1, 0, 0, 0]).wellFormed = false := by decide
theorem test_wf_unknown_of_a_request_type : (Instr.unknownRequest 0 0x10).wellFormed = false := by decide
theorem test_wf_unknown_of_a_reply_type : (Instr.unknownRequest 0 0x80).wellFormed = false := by decide
theorem test_wf_unknown : (Instr.unknownRequest 0 0x7F).wellFormed = true := by decide
theorem test_wf_no_pulse : (Instr.encoderCount .p 0).wellFormed = false := by decide
theorem test_wf_mark_256 : (Instr.markEvent 256).wellFormed = false := by decide
theorem test_wf_torque : (Instr.driveStatus ⟨.ready, 0, 101⟩).wellFormed = false ∧
    (Instr.driveStatus ⟨.ready, 0, -101⟩).wellFormed = false ∧
    (Instr.driveStatus ⟨.ready, 0, -100⟩).wellFormed = true := by decide
theorem test_wf_gate_address : (Instr.nothing 0).wellFormed = false ∧ (Instr.passed 13).wellFormed = false ∧
    (Instr.present 12 ⟨.token, 0, 0, 0⟩).wellFormed = true := by decide

/-- The table gives no row a bit, so no word spells a command (DESIGN CHOICE, assumption log 1). -/
theorem test_no_word_spells_a_command : decodeTableWord 8 0 = none ∧ (State.reset.withFetchWord 8 0).pending = [] := by
  decide

/-! ### The manual's worked examples -/

/-- The bytes of a text, for the CRC check value. -/
def digits : List Byte := [0x31, 0x32, 0x33, 0x34, 0x35, 0x36, 0x37, 0x38, 0x39]

/-- The CRC-16 of R173 over "123456789" is 0x29B1, and the CRC-32 of R12 is 0xCBF43926 (check values of the two codes). -/
theorem test_crc_check_values : crc16 digits = 0x29B1#16 ∧ crc32 digits = 0xCBF43926#32 := by decide +kernel

/-- The example of R18: 1,200,000 counts at 4,096 a metre with offset 500,000 read 792,968 mm. -/
theorem test_channel_position : ({ Channel.reset with count := 1200000, offset := 500000 } : Channel).position 4096 = 792968 := by
  decide +kernel

/-- R18: the division rounds toward zero. -/
theorem test_negative_travel : ({ Channel.reset with count := -3 } : Channel).travel 4096 = 0 := by decide

/-- 11: the two ends of the 4 signed bytes. -/
theorem test_signed_bytes :
    Item.bytes (.i32 (-2147483648)) = [0x80, 0, 0, 0] ∧ Item.bytes (.i32 2147483647) = [0x7F, 0xFF, 0xFF, 0xFF] ∧
      Item.bytes (.i32 (-1)) = [0xFF, 0xFF, 0xFF, 0xFF] := by
  decide +kernel

/-- R20: 640 mm over 8 samples read 8,000 mm/s, 641 mm read 8,012, and the sign is that of the difference. -/
theorem test_channel_speed : channelSpeed 0 640 = 8000 ∧ channelSpeed 0 641 = 8012 ∧ channelSpeed 641 0 = -8012 := by
  decide

/-- The example of R33: five samples of an UP trip with R_back 300. -/
theorem test_rollback :
    let a := rollbackStep 300 (some .up) (-60) (-55) 0 0
    let b := rollbackStep 300 (some .up) (-70) (-75) a.1 a.2.1
    let c := rollbackStep 300 (some .up) 10 5 b.1 b.2.1
    let d := rollbackStep 300 (some .up) (-80) (-90) c.1 c.2.1
    let e := rollbackStep 300 (some .up) (-80) (-80) d.1 d.2.1
    a = (60, 0, false) ∧ b = (135, 0, false) ∧ c = (135, 1, false) ∧ d = (225, 0, false) ∧ e.2.2 = true := by
  decide +kernel

/-- The line of 4.12, with stops, platforms and gates placed on it. -/
def line : LineDesc where
  line := ⟨3600000, 12000, 900, 400, 2000, 500, 1000, 150, 400, 250, 1500, 300, 100, 4096, 1000, 200000⟩
  margin := ⟨300, 4, 600, 8, 200⟩
  profile := ⟨600, 300, 3000, 1000⟩
  car := ⟨250, 18000, 80, 4000⟩
  zones := [⟨0, 10000, 60⟩, ⟨500000, 6000, 120⟩, ⟨900000, 10000, 60⟩, ⟨2600000, 7000, 0⟩]
  platforms := [(0, ⟨0, .a, 0, .left, false⟩), (1, ⟨1, .b, 3600000, .right, false⟩),
    (2, ⟨1, .a, 3600000, .left, true⟩), (3, ⟨0, .b, 0, .right, false⟩)]
  stops := [⟨0, some 0, some 1⟩, ⟨1200000, none, none⟩, ⟨3600000, some 2, some 3⟩]
  marks := [(1, 3000), (2, 1800000)]
  gates := [(2, ⟨0, true⟩), (5, ⟨3, true⟩), (7, ⟨0, false⟩)]
  classes := List.replicate 15 ⟨.standard, true⟩ ++ [⟨.priority, false⟩]
  threshold := ⟨0, 0, 1, 2⟩
  timing := ⟨1, 2, 1, 1, 1⟩
  door := ⟨true, 3, false⟩
  plan := 0

/-- R7 to R10: the line passes validation, and R2: it is its own complete copy. -/
theorem test_line_is_valid : validate line.toDraft = none ∧ line.toDraft.complete = line := by decide +kernel

/-- R8: line_max 1,000 with release_speed 1,500 written fails FIELD_ORDER (code 4) of LINE 0. -/
theorem test_field_order :
    validate [⟨.line, 0, [(1, 1200000), (2, 1000), (6, 1500), (14, 1000), (15, 1000)]⟩, ⟨.car, 0, [(1, 250), (2, 18000), (4, 4000)]⟩,
      ⟨.zone, 0, [(1, 0), (2, 1000), (3, 0)]⟩, ⟨.stop, 0, [(1, 0)]⟩, ⟨.stop, 1, [(1, 1200000)]⟩] = some (1, 0, 4) := by
  decide +kernel

/-- R16: an image without its marker or with another format number is absent; one with a wrong length fails. -/
theorem test_image_load :
    (loadImage Image.blank).1 = .imageAbsent ∧ (loadImage ⟨true, 2, 0, 1, [], 0⟩).1 = .imageAbsent ∧
      (loadImage ⟨true, 1, 0, 1, [], 0⟩).1 = .imageCrc := by
  decide +kernel

/-- Windows with pending and inflight, as in 3.8. -/
def windowsOf (state : WindowState) (platform : Option Nat) (pending inflight : Nat) : Pair Window :=
  ⟨{ Window.reset with state := state, platform := platform, pending := pending, inflight := inflight, granted := inflight },
    Window.reset⟩

/-- Links with onboard counts and weigh values. -/
def linksOf (onboardA onboardB : Nat) (weighB : Option Nat) : Pair CarLink :=
  ⟨{ CarLink.reset with live := true, liveness := some 300, onboard := onboardA },
    { CarLink.reset with live := true, liveness := some 300, onboard := onboardB, weigh := weighB }⟩

/-- 3.8, step 0: payloads 5,440 and 7,840, U_UP 2,400, a_eff 756 and 612, and 900 for DOWN. -/
theorem test_load_step_0 :
    let l := liveFigures line (linksOf 60 95 (some 7840)) (windowsOf .opened (some 0) 5 3)
    l.cars.a.payload = 5440 ∧ l.cars.b.payload = 7840 ∧ l.cars.a.gross = 23440 ∧ l.cars.b.gross = 25840 ∧ l.up.u = 2400 ∧
      l.up.within = true ∧ l.up.aEff = [756, 612, 756, 900] ∧ l.down.u = 0 ∧ l.down.aEff = [900, 900, 900, 900] := by
  decide +kernel

/-- 3.8, steps 2, 5 and 6: an odd product rounds down; a weigh above 40,000 is not used; one of 8,000 is. -/
theorem test_load_steps :
    (liveFigures line (linksOf 66 95 (some 7840)) (windowsOf .opened (some 0) 6 2)).up.aEff = [785, 670, 785, 900] ∧
      (liveFigures line (linksOf 66 95 (some 41000)) (windowsOf .opened (some 0) 0 2)).up.aEff = [771, 641, 771, 900] ∧
      (liveFigures line (linksOf 66 95 (some 8000)) (windowsOf .opened (some 0) 0 2)).up.aEff = [747, 593, 747, 900] := by
  decide +kernel

/-- R42: the floor of the capability, for U 30,000 and P_z 255. -/
theorem test_capability_floor : brakingCapability line 30000 255 = 400 ∧ brakingCapability line 2400 120 = 612 := by
  decide

/-- The estimator of departure 57 (4.12). -/
def estimator : Estimator :=
  ⟨none, none, ⟨0, 0⟩, some ⟨57, .up, ⟨5440, 7840⟩, ⟨false, true⟩, 2400, [756, 612, 756, 900]⟩⟩

/-- 4.12: the list built at p₀ = 0. -/
theorem test_build_up :
    (buildList line estimator .up 0 1200000).map (fun r => (r.kind, r.position, r.target, r.ar)) =
      [(.zone, 500000, 6000, 612), (.destination, 1200000, 500, 612)] := by
  decide +kernel

/-- The example of R52 and R53: a DOWN trip from 2,400,000. -/
theorem test_build_down :
    (buildList line ⟨none, none, ⟨0, 0⟩, some ⟨1, .down, ⟨0, 0⟩, ⟨false, false⟩, 0, [810, 720, 810, 900]⟩⟩ .down 2400000 0).map
      (fun r => (r.kind, r.position, r.target, r.ar)) = [(.zone, 900000, 6000, 810), (.destination, 0, 500, 720)] := by
  decide +kernel

/-- The envelope of departure 57 in its zone of record 0, and a confirmed view at a position. -/
def envelope : Envelope :=
  { Envelope.reset with list := buildList line estimator .up 0 1200000, zoneOfRecord := some 0, cap := some 12000 }

/-- A confirmed view at a position with a measured speed. -/
def viewAt (x : Int) (vm : Nat) : View := { View.reset with xP := x, xQ := x, vP := vm, vQ := vm, vm := vm, pos := .confirmed }

/-- v_perm and the v_r of the entries after one view of departure 57. -/
def seen (x : Int) : Nat × List Nat :=
  let e := envelope.view line estimator .running (some .up) (viewAt x 0)
  (e.vPerm, e.list.map (·.vr))

/-- 4.12: the views along the trip. -/
theorem test_views_along_the_trip :
    seen 0 = (10000, [15000, 15000]) ∧ seen 440000 = (10000, [10343, 15000]) ∧ seen 480000 = (7617, [7617, 15000]) ∧
      seen 499000 = (6000, [6000, 15000]) ∧ seen 500080 = (6000, [15000]) ∧ seen 900060 = (10000, [15000]) ∧
      seen 1140000 = (9377, [9377]) ∧ seen 1198800 = (500, [500]) := by
  decide +kernel

/-- 4.13: the worked cases of the curve. -/
theorem test_curve_limits :
    curveSpeed 500 400 58000 = 6830 ∧ curveSpeed 500 756 148644 = 14999 ∧ curveSpeed 500 756 148645 = 15000 ∧
      curveSpeed 500 756 (brakingRoom line 2000) = 500 ∧ curveSpeed 500 756 (brakingRoom line 2001) = 501 ∧
      curveSpeed 500 756 (brakingRoom line (-350)) = 500 ∧ curveSpeed 500 756 60000 = 9537 := by
  decide +kernel

/-- 4.13: the thresholds at the ends of v_perm. -/
theorem test_thresholds :
    [0, 500, 7500, 12000, 15000].map (fun v => (serviceThreshold line.margin v, emergencyThreshold line.margin v)) =
      [(300, 600), (800, 1100), (7800, 8100), (12480, 12960), (15600, 16200)] := by
  decide

/-- 4.12: at v_perm 9,377 a speed of 9,800 is SERVICE, 10,127 is still SERVICE, and 10,128 EMERGENCY. -/
theorem test_levels :
    [9377, 9752, 9800, 10127, 10128].map (fun v => speedLevel v 9377 9752 10127) =
      [.none, .warning, .service, .service, .emergency] := by
  decide

/-- 4.14: a lowered class comes into force once the measured speed is at or below it. -/
theorem test_pending_cap :
    let e : Envelope := { envelope with pendingCap := some 6000 }
    (e.capTest 6012).cap = some 12000 ∧ (e.capTest 6000).cap = some 6000 ∧ (e.capTest 6000).pendingCap = none := by
  decide +kernel

/-- The DESTINATION entry of departure 57 in zone 2, at a distance. -/
def approach (dist : Int) : List Restriction :=
  [{ kind := .destination, position := 1200000, target := 500, ar := 756, distance := dist
     vr := curveSpeed 500 756 (brakingRoom line dist) }]

/-- The record of departure 57. -/
def record57 : TripRecord := ⟨.normal, some 0, some 1, .up, .normal, 57, some 12000, none, false, 0, false⟩

/-- v_ref of a view of departure 57. -/
def sent (st : TripState) (dist : Int) (vRef : Nat) : Nat :=
  let res : EnvResult := { EnvResult.reset with
    view := viewAt (1200000 - dist) 0, vPerm := min 10000 (curveSpeed 500 756 (brakingRoom line dist))
    restrictions := approach dist }
  newReference line estimator res st record57 vRef

/-- 5.13: the references on the approach to the destination. -/
theorem test_approach :
    sent .running 60000 8120 = 8115 ∧ sent .running 10000 3040 = 3035 ∧ sent .creeping 3000 1140 = 1127 ∧
      sent .creeping 1900 305 = 300 := by
  decide +kernel

/-- R75: from v_ref 0 the reference rises by 6 a view. -/
theorem test_ramp_up : ramp 6 5 9800 0 = 6 ∧ ramp 6 5 9800 6 = 12 := by decide

/-- 7.3: in-delta 10 over the wrap of the counter; onboard 3 with out_delta 5 becomes 0. -/
theorem test_counter_deltas : (4#16 - 65530#16).toNat = 10 ∧ countOnboard 3 0 5 = 0 ∧ countOnboard 995 10 0 = 999 := by
  decide

/-- R143: capacity 7 gives SEVEN_EIGHTHS 6 and HALF 3. -/
theorem test_credit_small_capacity :
    let d : LineDesc := { line with car := ⟨7, 18000, 80, 4000⟩, threshold := ⟨0, 3, 1, 2⟩ }
    creditPasses d .standard 5 = true ∧ creditPasses d .standard 6 = false ∧ creditPasses d .staff 2 = true ∧
      creditPasses d .staff 3 = false ∧ creditPasses d .priority 6 = true ∧ creditPasses d .priority 7 = false := by
  decide

/-- R168 and 9.10: k low bits of the id are taken as 0. -/
theorem test_deny_mask : maskLow 0x0BEE0001 8 = 0x0BEE0000 ∧ maskLow 0x0BEE0001 0 = 0x0BEE0001 := by decide

/-- R158, R170: with T_pb 300 s a last entry 299 s ago is a passback, one 300 s ago is not. -/
theorem test_time_since :
    ({ CredStore.reset with day := 10, clock := 100 } : CredStore).since (9, 86201) = 299 ∧
      ({ CredStore.reset with day := 10, clock := 100 } : CredStore).since (9, 86200) = 300 := by
  decide

/-- R167: an append drops the oldest id of a full ring, and an id in it changes nothing. -/
theorem test_ring_append : ringAppend 3 9 [1, 2, 3] = [2, 3, 9] ∧ ringAppend 3 2 [1, 2, 3] = [1, 2, 3] := by decide

/-! ### States for the statements -/

/-- The part configured with `line`, its store READY, the trip STRANDED. -/
def configured : State := { State.reset with
  cfg := ⟨.idle, line.toDraft, some line, Image.blank, 1, .loaded, none, none⟩
  store := { CredStore.reset with state := .ready, classes := line.classes, day := 9, clock := 100 }
  bus := (State.reset.configureGates line).bus
  load := ⟨some (liveFigures line (linksOf 0 0 none) ⟨Window.reset, Window.reset⟩), none, ⟨0, 0⟩, none⟩
  trip := { TripCtl.reset with state := .stranded } }

/-- Both brakes commanded APPLIED but EB, which is LIFTED; the supervisor NORMAL. -/
def normalBrakes : BrakeSup where
  sb := ⟨.applied, .applied, none, false, false⟩
  eb := ⟨.lifted, .lifted, none, false, true⟩
  de := false
  state := .normal
  escalation := none
  check := .notMade
  requiredDecel := 0
  ebLift := none
  captures := []
  overflow := false
  interventions := 0
  lastLevel := .none
  lastFlag := false
  drops := 0

/-- The line at rest at stop 0: PARKED, CONFIRMED and settled, both links LIVE, both doors LOCKED, the drive READY. -/
def parked : State := { configured with
  trip := { TripCtl.reset with state := .parked 0, driveLast := .ready }
  pos := { Monitor.reset with
    pos := .confirmed, still := 50, published := true
    view := { View.reset with pos := .confirmed, standstill := true, settled := true, atStop := some 0 } }
  brake := normalBrakes
  link := linksOf 0 0 none
  door := ⟨{ DoorCtl.reset with state := .locked }, { DoorCtl.reset with state := .locked }⟩ }

/-- The same line in another trip state, with a record. -/
def onTrip (st : TripState) : State := { parked with
  trip := { TripCtl.reset with
    state := st, record := some { record57 with cls := .reduced }, driveLast := .ready, departures := 57
    tPrep := some 60000, tLift := some 1000, step := 3, holdWait := true }
  env := { envelope with cap := some 6000 } }

/-- A trip under way: DE ON, SB LIFTED. -/
def hauling : State := { onTrip .running with
  brake := { normalBrakes with sb := ⟨.lifted, .lifted, none, false, true⟩, de := true } }

/-- The part after an intervention: SERVICE, the escalation timer running. -/
def serviced : State := { parked with
  brake := { normalBrakes with state := .service, escalation := some 1000 }
  trip := { parked.trip with state := .stranded } }

/-- Car A at its platform 0 with a door state, an authority and side reports. -/
def atDoor (st : DoorState) (auth : Option Side) (l r : DoorReport) : State := { parked with
  door := ⟨⟨st, auth, 0, none, none, l, r, false, false, false, false⟩, parked.door.b⟩ }

/-- A close cycle of car A in its CLOSE phase. -/
def closingDoor : State := { parked with
  door := ⟨⟨.closing, some .left, 0, some .close, some 20000, .moving, .locked, false, false, false, false⟩, parked.door.b⟩ }

/-- Car A with its window, at platform 0, with the gate 2 of that platform polled. -/
def boarding (st : WindowState) (pending : Nat) (grants : List Grant) : State := { parked with
  door := (atDoor .opened (some .left) .standingOpen .locked).door
  bus := { parked.bus with outstanding := some (2, true) }
  board := ⟨windowsOf st (some 0) pending grants.length, List.replicate 6 3, grants⟩ }

/-- A grant at gate 2. -/
def grantOf (kind : CredKind) : Grant := ⟨2, .a, 0, kind, 77, .standard, none, 9, 100, 6000⟩

/-- A decision open at gate 2, with an OPEN window of an onboard count. -/
def deciding (onboard : Nat) : State := { boarding .opened 0 [] with
  link := linksOf onboard 0 none
  bus := { parked.bus with
    outstanding := some (2, true)
    gates := parked.bus.gates.modify 1 fun g =>
    { g with decision := some ⟨⟨.token, 77, 2, 9⟩, some 0, .standard, none, 0⟩ } } }

/-- A store with pass records of the given ids, which ends after 8 days. -/
def holding (ids : List Nat) : State := { parked with
  store := { parked.store with
    passes := ids.map fun i => ⟨i, 2, 0, 8, 5, none, none⟩
    deny := [⟨0x0BEE0000, 8, .either⟩] } }

/-- The port with an assembler, replies and reports waiting. -/
def portOf (rx : Assembler) (replies : List Reply) (reports : List Report) (restarting : Bool) : Port :=
  ⟨rx, replies, reports, some (.reply ⟨0xBF#8, 5, .plain .ok⟩), 0, true, restarting⟩

/-- The part with such a port. -/
def porting (rx : Assembler) (replies : List Reply) (reports : List Report) (restarting : Bool) : State :=
  { parked with port := portOf rx replies reports restarting }

/-- The part with car A's assembler. -/
def assembling (rx : Assembler) : State := { parked with wires := { parked.wires with carA := ⟨rx, none, []⟩ } }

/-- A reply. -/
def someReply : Reply := ⟨0x91#8, 1, .plain .ok⟩

/-- A report. -/
def someReport : Report := .gate (.storeClearing 0)

/-- Car A's HOLD flag set. -/
def withHold (s : State) : State := { s with
  link := { s.link with a := { s.link.a with attendant := ⟨false, true, false, false⟩ } } }

/-! ### States and operands that meet the hypotheses -/

theorem test_meets_CommandsLeaveTheQueue : ∃ t, exec .clockTick parked = .next t := ⟨_, rfl⟩

/-- The part in EMERGENCY, with nothing in the way of a BRAKE RESET. -/
def emergency : State := { serviced with
  brake := { serviced.brake with state := .emergency, eb := ⟨.applied, .applied, none, false, false⟩ } }

theorem test_meets_EveryStepKeepsTheLatchedOutputs :
    (({ serviced with pending := [.sample] } : State).LatchLaw ∧
      ∃ t, step { serviced with pending := [.sample] } = .next t) ∧
      emergency.BrakeResetOpen ∧ emergency.brake.eb.command = .applied ∧
      ∃ t, step { emergency with pending := [.brakeReset 0 []] } = .next t ∧ t.brake.eb.command = .lifted := by
  refine ⟨⟨?_, _, rfl⟩, ?_, by decide +kernel, _, rfl, by decide +kernel⟩
  · unfold State.LatchLaw
    decide +kernel
  · unfold State.BrakeResetOpen
    decide +kernel

/-- R172: the last byte of a BRAKE RESET frame lifts EB. -/
theorem test_meets_the_byte_that_completes_a_reset :
    let stored := ((frameBytes 0x18#8 7 []).drop 2).take 3
    let s : State := { emergency with
      port := portOf ⟨.body, 2, stored, true⟩ [] [] false, pending := [.incomingByte ((frameBytes 0x18#8 7 []).getD 5 0)] }
    s.TakesRequests ∧ s.BrakeResetOpen ∧ s.port.rx.phase = .body ∧ s.port.rx.length = 2 ∧
      0xA5#8 :: 2#8 :: (s.port.rx.stored ++ [(frameBytes 0x18#8 7 []).getD 5 0]) = frameBytes 0x18#8 7 [] ∧
      ∃ t, step s = .next t ∧ t.brake.eb.command = .lifted := by
  refine ⟨by decide +kernel, ?_, rfl, rfl, by decide +kernel, _, rfl, by decide +kernel⟩
  unfold State.BrakeResetOpen
  decide +kernel

theorem test_meets_EveryStepKeepsTheOutputPermission :
    ({ hauling with pending := [.livenessTimerExpiry .a] } : State).PermissionLaw ∧
      ∃ t, step { hauling with pending := [.livenessTimerExpiry .a] } = .next t := by
  refine ⟨?_, _, rfl⟩
  unfold State.PermissionLaw
  decide +kernel

theorem test_meets_EveryStepKeepsThePassageCounts :
    ({ boarding .opened 1 [grantOf .token] with pending := [.passed 2] } : State).GrantLaw ∧
      ({ boarding .opened 1 [grantOf .token] with pending := [.passed 2] } : State).CountLaw ∧
      ({ boarding .opened 1 [grantOf .token] with pending := [.passed 2] } : State).AuthorityLaw ∧
      ({ boarding .opened 1 [grantOf .token] with pending := [.passed 2] } : State).ViolationLaw ∧
      ({ boarding .opened 1 [grantOf .token] with pending := [.passed 2] } : State).BoardLaw ∧
      ∃ t, step { boarding .opened 1 [grantOf .token] with pending := [.passed 2] } = .next t := by
  refine ⟨?_, ?_, ⟨by decide +kernel, ?_⟩, ?_, ⟨by decide +kernel, ?_⟩, _, rfl⟩
  · unfold State.GrantLaw
    decide +kernel
  · intro c
    cases c <;> decide +kernel
  · intro c
    cases c <;> decide +kernel
  · intro c
    cases c <;> decide +kernel
  · intro c
    refine ⟨?_, ?_, fun d h => ?_⟩
    · cases c <;> decide +kernel
    · cases c <;> decide +kernel
    · cases h
      cases c <;> decide +kernel

/-- A trip under way whose reference speed is as high as the envelope lets it be. -/
def atTheEnvelope : State := { hauling with
  trip := { hauling.trip with vRef := 9800 }, env := { hauling.env with
    vPerm := 6000, result := { EnvResult.reset with vPerm := 10000, zoneTerm := 6000 } } }

theorem test_meets_EveryStepKeepsCapturesAndReference :
    (∃ t, step { atTheEnvelope with pending := [.tLiftExpiry] } = .next t) ∧ atTheEnvelope.CaptureLaw ∧
      atTheEnvelope.ReferenceLaw ∧ atTheEnvelope.EnvelopeLaw := by
  refine ⟨⟨_, rfl⟩, ?_, ⟨by decide +kernel, by decide +kernel, fun d h => ?_⟩,
    ⟨by decide +kernel, by decide +kernel, by decide +kernel, fun cap h => ?_⟩⟩
  · unfold State.CaptureLaw
    decide +kernel
  · cases h
    decide +kernel
  · cases h
    decide +kernel

/-- R58, R84: v_perm is 0 at once when a trip goes from RUNNING to INTERVENED and to STRANDED, and stays from RUNNING to
CREEPING. -/
theorem test_notice_of_a_run_that_ends :
    (atTheEnvelope.enterTrip .intervened).env.vPerm = 0 ∧ (atTheEnvelope.enterTrip .stranded).env.vPerm = 0 ∧
      (atTheEnvelope.enterTrip .creeping).env.vPerm = 6000 := by
  decide +kernel

theorem test_meets_EveryStepKeepsTheQueueSizes :
    ({ porting Assembler.idle (List.replicate 4 someReply) (List.replicate 32 someReport) false with
        pending := [.frameSent] } : State).QueueLaw ∧
      ∃ t, step { porting Assembler.idle (List.replicate 4 someReply) (List.replicate 32 someReport) false with
        pending := [.frameSent] } = .next t := by
  refine ⟨?_, _, rfl⟩
  unfold State.QueueLaw
  decide +kernel

theorem test_meets_EveryStepKeepsTheStoreLists :
    ({ holding [3, 5] with pending := [.passDelete 0 [0, 0, 0, 3]] } : State).StoreLaw ∧
      ∃ t, step { holding [3, 5] with pending := [.passDelete 0 [0, 0, 0, 3]] } = .next t := by
  refine ⟨?_, _, rfl⟩
  unfold State.StoreLaw
  decide +kernel

theorem test_meets_FrameBytesGiveTheirCommand :
    (List.replicate 250 0#8).length ≤ 250 ∧ State.reset.port.rx.phase = .hunt := by decide +kernel

theorem test_meets_LinkBytesGiveTheirCommand :
    (∀ c ∈ [Instr.driveStatus ⟨.fault, 255#8, -100⟩, .carStatus .b ⟨.obstructed, .locked, 7, 65535#16, 0#16, some 9#16,
        ⟨true, true, true, true⟩, ⟨true, true⟩⟩, .nothing 1, .present 12 ⟨.token, 77#32, 15, 9#16⟩, .passed 12,
        .abandoned 1, .gateFault 2 255#8], c.wellFormed = true ∧ (linkContent c).isSome = true) ∧
      ∀ w ∈ [PartnerLink.gateBus, .carA, .carB, .driveLine], (State.reset.wires.get w).rx.phase = .hunt := by
  decide +kernel

theorem test_meets_IncomingByteMovesTheAssembler :
    (parked.port.restarting = false ∧ (parked.wires.get .carA).rx.phase = .hunt ∧ parked.port.rx.phase = .hunt) ∧
      (∀ b ∈ [1#8, 32#8], 1 ≤ b.toNat ∧ b.toNat ≤ 32 ∧
        ((assembling ⟨.header, 0, [], false⟩).wires.get .carA).rx.phase = .header) ∧
      (∀ b ∈ [0#8, 33#8], ¬(1 ≤ b.toNat ∧ b.toNat ≤ 32)) ∧
      (let a := ((assembling ⟨.body, 2, [1, 2], true⟩).wires.get .carA).rx;
        a.phase = .body ∧ a.stored.length + 1 ≠ a.length + 2) ∧
      (∀ b ∈ [2#8, 252#8], 2 ≤ b.toNat ∧ b.toNat ≤ 252 ∧ (porting ⟨.header, 0, [], false⟩ [] [] false).port.rx.phase = .header) ∧
      (∀ b ∈ [1#8, 253#8], ¬(2 ≤ b.toNat ∧ b.toNat ≤ 252)) ∧
      (let a := (porting ⟨.body, 2, [1, 2], true⟩ [] [] false).port.rx;
        a.phase = .body ∧ a.stored.length + 1 ≠ a.length + 2) := by
  decide +kernel

theorem test_meets_RequestsAreTestedInOrder :
    (porting Assembler.idle [] [] true).port.restarting = true ∧
      (let s := porting Assembler.idle (List.replicate 4 someReply) [] false;
        s.port.restarting = false ∧ Config.replyQueueSize ≤ s.port.replies.length) ∧
      (let s := porting Assembler.idle (List.replicate 3 someReply) [] false;
        s.TakesRequests ∧ noPayload [0#8] = none ∧ noPayload [] = some ()) ∧
      (State.reset.port.restarting = false ∧ State.reset.port.replies.length < Config.replyQueueSize ∧
        State.reset.cfg.commit = .loading) := by
  decide +kernel

/-- The line STRANDED with its latch clear, the view at a position in a position state. -/
def strandedAt (pos : PosState) (x : Int) : State := { serviced with
  brake := normalBrakes
  pos := { parked.pos with pos := pos, view := { parked.pos.view with pos := pos, xP := x, atStop := none } } }

theorem test_meets_RefusedRequestsChangeNothing :
    (parked.TakesRequests ∧ hauling.TakesRequests ∧ serviced.TakesRequests ∧ hauling.trip.state.underWay = true ∧
      serviced.trip.state = .stranded ∧ serviced.brake.latch = true ∧ parked.trip.state ≠ .stranded ∧
      2 < (3#8).toNat ∧ parked.stopCount ≤ (3#8).toNat ∧ parked.trip.state = .parked (0#8).toNat ∧
      (parked.brake.latch = false ∧ parked.brake.eb.command = .lifted) ∧ carOfCode 0#8 = some .a ∧
      (parked.door.get .a).authority = none ∧ (parked.door.get .a).state = .locked ∧
      (boarding .opened 0 []).TakesRequests ∧ ((boarding .opened 0 []).window .a).state = .opened ∧
      ((boarding .closing 0 []).window .a).state = .closing) ∧
      (let s := strandedAt .disputed 0;
        s.TakesRequests ∧ s.cfg.commit ≠ .writing ∧ s.trip.state = .stranded ∧ s.brake.latch = false ∧
          s.cfg.active = some line ∧ s.pos.view.pos ≠ .confirmed) ∧
      (let s := strandedAt .confirmed 3599850;
        s.TakesRequests ∧ s.pos.view.pos = .confirmed ∧ 1 < (2#8).toNat ∧
          ∀ k, k < line.stops.length → (line.stopX k : Int) ≤ s.pos.view.xP + line.line.stopWindow) ∧
      (let s := strandedAt .confirmed 150;
        s.TakesRequests ∧ ∀ k, k < line.stops.length → s.pos.view.xP - line.line.stopWindow ≤ (line.stopX k : Int)) ∧
      (let s : State := { State.reset with cfg := { State.reset.cfg with commit := .idle } };
        s.TakesRequests ∧ s.unconfigured = true ∧ 1 < (2#8).toNat ∧ parked.unconfigured = false) ∧
      (parked.trip.state.isParked = true ∧ (closingDoor.TakesRequests ∧ closingDoor.unconfigured = false ∧
        closingDoor.trip.state.isParked = true ∧ (closingDoor.door.get .a).state = .closing)) :=
  ⟨by decide +kernel, by decide +kernel, ⟨by decide +kernel, by decide +kernel, by decide +kernel, by decide +kernel⟩,
    ⟨by decide +kernel, by decide +kernel⟩, by decide +kernel, by decide +kernel⟩

theorem test_meets_DiscardsCountAndUnknownReplies :
    (let s := porting ⟨.body, 2, [1], true⟩ (List.replicate 3 someReply) [] false;
      s.port.restarting = false ∧ s.port.replies.length < Config.replyQueueSize ∧ s.port.rx.gap = true) ∧
      parked.port.rx.gap = false ∧ (0x7F#8).toNat < 0x80 ∧ 0x80 ≤ (0x80#8).toNat := by
  decide +kernel

theorem test_meets_ResetAndRestart :
    ({ parked with cfg := { parked.cfg with commit := .writing } } : State).TakesRequests ∧
      parked.TakesRequests ∧ parked.cfg.commit ≠ .writing ∧
      (let s := porting Assembler.idle [] [] true;
        s.port.restarting = true ∧ s.port.sending = some (.reply ⟨0xBF#8, 5, .plain .ok⟩)) := by
  decide +kernel

theorem test_meets_FrameSentTakesTheNext :
    (let s := porting Assembler.idle [someReply] [someReport] false;
      s.port.sending.isSome = true ∧ s.port.restarting = false ∧ s.port.replies = [someReply]) ∧
      (let s := porting Assembler.idle [] [someReport] false;
        s.port.replies = [] ∧ s.port.reports = [someReport]) ∧
      (let s := porting Assembler.idle [] [] false;
        s.port.replies = [] ∧ s.port.reports = []) := by
  decide +kernel

theorem test_meets_StatusShowsASection :
    parked.TakesRequests ∧
      (∀ code ∈ [0#8, 1#8, 2#8, 3#8, 4#8, 5#8, 6#8, 7#8, 8#8, 9#8, 10#8, 11#8],
        code.toNat ≤ 11 ∧ (0#8).toNat < parked.hunting.sectionPages code.toNat) ∧
      11 < (12#8).toNat ∧ parked.hunting.sectionPages (0#8).toNat ≤ (255#8).toNat := by
  decide +kernel

theorem written_image_loads (d : LineDesc) (n : Nat) (h : validate d.toDraft = none) :
    loadImage (writtenImage d n) = (.loaded, none) := by
  simp [loadImage, writtenImage, imageBytes, h]

theorem test_meets_LoadEndTakesTheImage :
    State.reset.cfg.commit = .loading ∧ loadImage State.reset.cfg.image = (.imageAbsent, none) ∧
      (let s := State.resetWith (writtenImage line 3) .applied .applied;
        s.cfg.commit = .loading ∧ loadImage s.cfg.image = (.loaded, none)) :=
  ⟨rfl, by decide +kernel, rfl, written_image_loads line 3 test_line_is_valid.1⟩

theorem test_meets_ConfigWriteSetsTheDraftRecord :
    parked.port.restarting = false ∧ parked.port.replies.length < Config.replyQueueSize ∧ parked.cfg.commit = .idle ∧
      State.reset.cfg.commit ≠ .idle ∧ writePayload [15, 0, 0, 0] = some ⟨15, 0, 0, []⟩ ∧ Kind.ofCode 15 = none ∧
      (writePayload [1, 0, 2, 0] = some ⟨1, 0, 2, []⟩ ∧ 1 < 2) ∧
      writePayload [8, 25, 0, 0] = some ⟨8, 25, 0, []⟩ ∧ Kind.ofCode 8 = some .mark ∧ Kind.mark.hasIndex 25 = false ∧
      (writePayload [8, 1, 0, 2, 1, 0, 0, 0, 0, 1, 0, 0, 0, 1] = some ⟨8, 1, 0, [(1, 0), (1, 1)]⟩ ∧
        ¬([(1, 0), (1, 1)].map (·.1) : List Nat).Nodup) ∧
      (writePayload [1, 0, 0, 1, 2, 0, 0, 0x3A, 0x99] = some ⟨1, 0, 0, [(2, 15001)]⟩ ∧
        ¬∃ sp ∈ Kind.line.specs, sp.number = 2 ∧ ((sp.low ≤ 15001 ∧ 15001 ≤ sp.high) ∨ sp.extra = some 15001)) ∧
      writePayload [1, 0, 0, 1, 2, 0, 0, 0x3A, 0x98] = some ⟨1, 0, 0, [(2, 15000)]⟩ ∧ Kind.ofCode 1 = some .line ∧
      Kind.line.hasIndex 0 = true ∧ writable .line [(2, 15000)] = true := by
  decide +kernel

theorem test_meets_ConfigRemoveRemovesTheRecord :
    parked.port.restarting = false ∧ parked.port.replies.length < Config.replyQueueSize ∧ parked.cfg.commit = .idle ∧
      State.reset.cfg.commit ≠ .idle ∧ Kind.ofCode 8 = some .mark ∧ Kind.ofCode 15 = none ∧
      writePayload [15, 0, 1, 0] = some ⟨15, 0, 1, []⟩ ∧
      writePayload [8, 24, 1, 0] = some ⟨8, 24, 1, []⟩ ∧ Kind.mark.hasIndex 24 = true ∧ parked.cfg.draft.has .mark 24 = false ∧
      writePayload [8, 1, 1, 0] = some ⟨8, 1, 1, []⟩ ∧ parked.cfg.draft.has .mark 1 = true ∧
      writePayload [8, 25, 1, 0] = some ⟨8, 25, 1, []⟩ ∧ Kind.mark.hasIndex 25 = false ∧
      writePayload [8, 1, 1, 1, 1, 0, 0, 0, 0] = some ⟨8, 1, 1, [(1, 0)]⟩ ∧
      writePayload [10, 15, 1, 0] = some ⟨10, 15, 1, []⟩ ∧ Kind.ofCode 10 = some .fareClass ∧
      Kind.fareClass.hasIndex 15 = true ∧ writePayload [1, 0, 1, 0] = some ⟨1, 0, 1, []⟩ ∧ Kind.ofCode 1 = some .line := by
  decide +kernel

/-- R4: no record comes before LINE 0; CLASS 15 without its record is the default class. -/
theorem test_meets_a_required_record_removed :
    (∀ l j x, l.hasIndex j = true → (l.code < Kind.line.code ∨ (l = .line ∧ j < 0)) →
      ¬(line.toDraft.remove .line 0).FailsCheck l j x) ∧
      validate (line.toDraft.remove .line 0) = some (1, 0, 1) ∧ validate (line.toDraft.remove .stop 1) = some (7, 1, 1) ∧
      (line.toDraft.remove .fareClass 15).complete.classes.getLast? = some ⟨.standard, true⟩ := by
  refine ⟨fun l j x _ h => ?_, by decide +kernel, by decide +kernel, by decide +kernel⟩
  rcases h with h | h
  · cases l <;> exact absurd h (by decide)
  · exact absurd h.2 (Nat.not_lt_zero j)

theorem test_meets_DraftHoldsWhatIsWritten :
    (([(1, 5), (2, 7)] : List (Nat × Nat)).map (·.1)).Nodup ∧ ((2, 7) : Nat × Nat) ∈ [(1, 5), (2, 7)] ∧
      3 ∉ ([(1, 5), (2, 7)] : List (Nat × Nat)).map (·.1) ∧ ((.mark, 2) : Kind × Nat) ≠ (.mark, 1) := by
  decide

theorem test_meets_ConfigReadShowsTheRecord :
    parked.TakesRequests ∧ parked.cfg.commit = .idle ∧ Kind.ofCode (8#8).toNat = some .mark ∧
      Kind.mark.hasIndex (2#8).toNat = true ∧ parked.cfg.draft.fields? .mark (2#8).toNat = some [(1, 1800000)] ∧
      parked.cfg.draft.fields? .mark (24#8).toNat = none ∧ parked.cfg.active = some line ∧
      line.toDraft.fields? .mark (2#8).toNat = some [(1, 1800000)] ∧
      (let s : State := { State.reset with cfg := { State.reset.cfg with commit := .idle } };
        s.TakesRequests ∧ s.cfg.active = none) ∧
      (State.reset.port.restarting = false ∧ State.reset.port.replies.length < Config.replyQueueSize ∧
        State.reset.cfg.commit ≠ .idle) ∧
      (1 < (2#8).toNat ∧ Kind.ofCode (15#8).toNat = none ∧ Kind.mark.hasIndex (25#8).toNat = false) ∧
      line.toDraft.fields? .mark (24#8).toNat = none ∧ Kind.zone.hasIndex 4 = true ∧
      line.toDraft.fields? .zone 4 = none ∧ (line.toDraft.fields? .zone 3).isSome = true ∧
      (line.toDraft.fields? .fareClass 15).isSome = true := by
  decide +kernel

theorem test_meets_ConfigCommitStartsTheWrite :
    (let s : State := { parked with cfg := { parked.cfg with commit := .writing } };
      s.TakesRequests ∧ s.cfg.commit = .writing) ∧
      (let s : State := { parked with store := CredStore.reset };
        s.TakesRequests ∧ s.cfg.commit = .idle ∧ s.store.state = .clearing) ∧
      (hauling.TakesRequests ∧ hauling.store.state = .ready ∧ hauling.trip.state.atRest = false) ∧
      (parked.TakesRequests ∧ parked.cfg.commit = .idle ∧ parked.store.state = .ready ∧ parked.trip.state.atRest = true ∧
        parked.brake.sb.command = .applied ∧ parked.board.windows.a.state = .shut ∧
        parked.board.windows.b.state = .shut ∧ parked.board.grants = [] ∧ validate parked.cfg.draft = none) ∧
      (validate ([] : Draft) = some (1, 0, 1) ∧ Kind.line.hasIndex 0 = true) ∧ Draft.FailsCheck [] .line 0 1 :=
  ⟨by decide +kernel, by decide +kernel, by decide +kernel, by decide +kernel, by decide +kernel, rfl, .inl ⟨rfl, .inl rfl⟩⟩

theorem test_meets_ImageWriteEndActivatesTheDraft :
    (let s : State := { porting Assembler.idle [] [] false with cfg := { parked.cfg with commit := .writing, held := some 7 } };
      s.cfg.commit = .writing ∧ s.cfg.held = some 7 ∧ s.port.sending.isSome = true ∧
        s.cfg.active.map (·.plan) = some s.cfg.draft.complete.plan) ∧
      (let s : State := { parked with cfg := { parked.cfg with commit := .writing, active := none } };
        s.cfg.commit = .writing ∧ s.cfg.active.map (·.plan) ≠ some s.cfg.draft.complete.plan) := by
  decide +kernel

/-- An image write in progress, with the car A at its door, the latest view at a position, and misses at every gate. -/
def writing (door : DoorState) (auth : Option Side) (x : Int) : State := { atDoor door auth .locked .locked with
  cfg := { parked.cfg with commit := .writing }
  pos := { parked.pos with view := { parked.pos.view with xP := x } }
  board := { parked.board with carry := [1, 2, 3, 4, 5, 6] }
  bus := { parked.bus with gates := parked.bus.gates.map fun g => { g with misses := 2, lock := true } } }

/-- R14, R31: the stop window of 150 mm, the authority of a car at its platform, gates and carry-over. -/
theorem test_meets_an_activation :
    (let s := writing .released (some .left) 150;
      line.scaleChanged s.cfg.active = false ∧ s.pos.pos = .confirmed ∧
        distance s.pos.view.xP (line.stopX 0) = line.line.stopWindow ∧ s.notices = [] ∧
        (∀ c ∈ [Car.a, .b], (s.door.get c).state ≠ .unsecured ∧ s.wrongSideOpen c = false ∧
          (s.window c).state = .shut ∧ (s.window c).deferred = false) ∧
        s.brake.sb.command = .applied ∧ s.door.b.authority = none ∧
        (s.bus.gates[1]?.map (·.state)) = some .offline ∧ (s.bus.gates[0]?.map (·.state)) = some .disabled ∧
        line.gate? 1 = none ∧ line.gate? 2 = some ⟨0, true⟩ ∧ line.gate? 7 = some ⟨0, false⟩) ∧
      (writing .released (some .left) 150).MeetsAuthority line (.parked 0) .a ∧
      ¬(writing .released (some .right) 150).MeetsAuthority line (.parked 0) .a ∧
      (∀ k, k < line.stops.length →
        line.line.stopWindow < distance (writing .released (some .left) 151).pos.view.xP (line.stopX k)) := by
  refine ⟨by decide +kernel, ⟨0, 0, ⟨0, .a, 0, .left, false⟩, rfl, by decide, by decide, rfl, rfl, rfl, rfl, rfl⟩, ?_,
    by decide +kernel⟩
  rintro ⟨k, i, p, hk, hi, hp, ha, -⟩
  cases hk
  cases Option.some.inj ((show line.stopPlatform? 0 .a = some 0 by decide).symm.trans hi)
  cases Option.some.inj ((show line.platform? 0 = some ⟨0, .a, 0, .left, false⟩ by decide).symm.trans hp)
  exact absurd ha (by decide)

theorem test_meets_DayAndClock :
    parked.TakesRequests ∧ be32 0#8 1#8 0x51#8 0x7F#8 = 86399 ∧ 86399 < be32 0#8 1#8 0x51#8 0x80#8 ∧
      parked.store.clock < 86399 ∧ ({ parked.store with clock := 86399 } : CredStore).clock = 86399 := by
  decide +kernel

theorem test_meets_CursorSetAndPassRead :
    parked.TakesRequests ∧ parked.StoreOpen ∧ be16 4#8 0#8 = 1024 ∧ 1024 < be16 4#8 1#8 ∧
      (holding [3, 5]).TakesRequests ∧ (holding [3, 5]).store.cursorDir = .up ∧
      (let s : State := { holding [3, 5] with store := { (holding [3, 5]).store with cursor := 1, cursorDir := .down } };
        s.TakesRequests ∧ s.StoreOpen ∧ s.store.cursorDir = .down) ∧ 1 < (2#8).toNat ∧
      (∃ t, exec (.passDelete 0 [0, 0, 0, 3]) (holding [3, 5]) = .next t) := by
  exact ⟨by decide +kernel, by decide +kernel, by decide +kernel, by decide +kernel, by decide +kernel, by decide +kernel,
    by decide +kernel, by decide +kernel, _, rfl⟩

/-- A PASS LOAD payload of an id. -/
def loadBytes (id : Byte) : List Byte := [0, 0, 0, id, 15, 0, 4, 0, 4, 0, 9]

/-- The record of that payload. -/
def loadedRec (id : Nat) : PassRec := ⟨id, 15, 4, 4, 9, none, none⟩

theorem test_meets_PassLoadAndDelete :
    (holding [3, 5]).StoreLaw ∧ (holding [3, 5]).TakesRequests ∧ (holding [3, 5]).StoreOpen ∧
      passPayload (loadBytes 4) = some (loadedRec 4) ∧ (holding [3, 5]).passInUse 4 = false ∧
      (holding [3, 5]).store.pass? 4 = none ∧ (holding [3, 5]).store.passes.length < passCapacity 0 ∧
      (holding [3, 5]).store.passIndex? 5 = some 1 ∧ passPayload (loadBytes 5) = some (loadedRec 5) ∧
      (let s := holding (List.range 768);
        s.TakesRequests ∧ s.StoreOpen ∧ passPayload [0, 0, 3, 0, 2, 0, 4, 0, 4, 0, 9] = some ⟨768, 2, 4, 4, 9, none, none⟩ ∧
          s.passInUse 768 = false ∧ passCapacity s.store.plan ≤ s.store.passes.length) ∧
      (holding [3, 5]).store.pass? (be32 0#8 0#8 0#8 9#8) = none ∧
      ((holding [3, 5]).store.pass? (be32 0#8 0#8 0#8 3#8)).isSome = true ∧
      (holding [3, 5]).passInUse (be32 0#8 0#8 0#8 3#8) = false ∧
      (let s : State := { boarding .opened 1 [grantOf .pass] with store := (holding [77]).store };
        s.TakesRequests ∧ s.StoreOpen ∧ (s.store.pass? 77).isSome = true ∧ s.passInUse (be32 0#8 0#8 0#8 77#8) = true ∧
          passPayload (loadBytes 77) = some (loadedRec 77)) := by
  refine ⟨?_, by decide +kernel⟩
  unfold State.StoreLaw
  decide +kernel

theorem test_meets_a_pass_in_use :
    ({ boarding .opened 1 [grantOf .pass] with store := (holding [77]).store } : State).StoreLaw := by
  unfold State.StoreLaw
  decide +kernel

theorem test_meets_a_full_pass_table : (holding (List.range 768)).store.passes.length = 768 := by
  simp [holding]

theorem test_meets_DenyAddAndDenyRemove :
    parked.TakesRequests ∧ parked.StoreOpen ∧ (8#8).toNat ≤ 8 ∧ denyKindOfCode 2#8 = some .either ∧
      (⟨be32 0x0B#8 0xEE#8 0#8 7#8 / 2 ^ 8 * 2 ^ 8, 8, .either⟩ : DenyRec) ∈ (holding []).store.deny ∧
      (⟨be32 0x0B#8 0xEE#8 0#8 7#8, 0, .either⟩ : DenyRec) ∉ (holding []).store.deny ∧ (holding []).store.deny.length < 128 ∧
      (let s : State := { parked with store := { parked.store with deny := (List.range 128).map fun i => ⟨i, 0, .pass⟩ } };
        s.TakesRequests ∧ s.StoreOpen ∧ (⟨200, 0, .pass⟩ : DenyRec) ∉ s.store.deny ∧ 128 ≤ s.store.deny.length) := by
  decide +kernel

theorem test_meets_FlushPlanAndClear :
    parked.TakesRequests ∧ parked.StoreOpen ∧ parked.cfg.commit = .idle ∧ (3#8).toNat ≤ 3 ∧
      parked.board.windows.a.state = .shut ∧ parked.board.windows.b.state = .shut ∧ parked.board.grants = [] ∧
      ({ parked.store with clearRunning := true } : CredStore).clearRunning = true := by
  decide +kernel

/-- R160, R162: the rows that refuse the credential requests and STORE PLAN. -/
theorem test_meets_the_refusals_of_the_store :
    (let s : State := { parked with cfg := { parked.cfg with active := none } };
      s.TakesRequests ∧ s.unconfigured = true ∧ s.cfg.commit ≠ .writing) ∧
      (let s : State := { parked with store := CredStore.reset };
        s.TakesRequests ∧ s.unconfigured = false ∧ s.store.state = .clearing ∧ s.cfg.commit ≠ .writing) ∧
      (passPayload [0, 0, 0, 7, 16, 0, 1, 0, 1, 0, 5]).map (·.cls) = some 16 ∧
      (passPayload [0, 0, 0, 7, 15, 0, 2, 0, 1, 0, 5]).map (fun r => (r.firstDay, r.lastDay)) = some (2, 1) ∧
      8 < (9#8).toNat ∧ denyKindOfCode 3 = none ∧ (denyPayload [0, 0, 0, 7, 8, 2]).isSome = true ∧
      ({ parked with cfg := { parked.cfg with commit := .writing } } : State).TakesRequests ∧ 3 < (4#8).toNat ∧
      (let s := boarding .opened 0 [];
        s.TakesRequests ∧ s.cfg.commit ≠ .writing ∧ s.StoreOpen ∧ (s.window .a).state ≠ .shut) := by
  decide +kernel

/-- The record of a DISPATCH from stop 0 to stop 2 in class REDUCED. -/
def dispatched : TripRecord := ⟨.normal, some 0, some 2, .up, .reduced, 1, none, none, false, 0, false⟩

/-- A state whose drive is not READY. -/
def withoutDrive (s : State) : State := { s with trip := { s.trip with driveLast := .running } }

theorem test_meets_DispatchPreparesTheTrip :
    (parked.TakesRequests ∧ parked.Secured ∧ parked.cfg.commit = .idle ∧ parked.cfg.active = some line ∧
      parked.trip.state = .parked 0 ∧ parked.brake.latch = false ∧ parked.pos.view.pos = .confirmed ∧
      classOfCode 1#8 = some .reduced ∧ (2#8).toNat < line.stops.length ∧ (2#8).toNat ≠ 0 ∧
      (parked.holds .a = false ∧ parked.holds .b = false) ∧
      parked.failedInterlock line dispatched = none ∧ parked.load.live.isSome = true) ∧
      ((withHold parked).TakesRequests ∧ (withHold parked).Secured ∧ (withHold parked).holds .a = true) ∧
      (let s := withoutDrive parked;
        s.TakesRequests ∧ s.Secured ∧ s.holds .a = false ∧ s.holds .b = false ∧
          s.failedInterlock line dispatched = some .drive) ∧
      (let s := onTrip .preparing;
        s.cfg.active = some line ∧ s.trip.record = some { record57 with cls := .reduced } ∧ s.holds .a = false ∧
          s.holds .b = false ∧ s.failedInterlock line { record57 with cls := .reduced } = none ∧
          (withoutDrive s).failedInterlock line { record57 with cls := .reduced } = some .drive) := by
  exact ⟨by decide +kernel, by decide +kernel, by decide +kernel, by decide +kernel⟩

/-- A departure in PREPARING, at a step. -/
def inStep (s : State) (n : Nat) : State := { s with
  trip := { (onTrip .preparing).trip with step := n, holdWait := false } }

/-- R68, R137, R138: step 1 with a grant in flight waits for its window; without one it goes on to step 2. -/
theorem test_meets_step_1 :
    (let s := boarding .opened 1 [grantOf .token];
      s.TakesRequests ∧ s.notices = [] ∧ s.trip.state = .parked 0 ∧ s.AuthorityHolds ∧ s.NoViolation .a ∧
        s.NoViolation .b ∧ (∀ w, (s.door.get w).cycle ≠ some .window) ∧ (s.window .a).state = .opened ∧
        0 < (s.window .a).inflight) ∧
      (let s := inStep (boarding .opened 1 [grantOf .token]) 1;
        s.trip.state = .preparing ∧ s.trip.step = 1 ∧ s.stepOne.window .a =
          { s.window .a with state := .closing, reason := some .preparing }) ∧
      (let s := inStep (boarding .opened 1 []) 1;
        (∀ c, (s.window c).state = .shut ∨ ((s.window c).state = .opened ∧ (s.window c).inflight = 0)) ∧
          s.stepOne.trip.step = 2) := by
  have h : ∀ {p : Car → Prop}, p .a → p .b → ∀ c, p c := fun ha hb c => by cases c <;> assumption
  refine ⟨⟨by decide +kernel, rfl, rfl, h (by decide +kernel) (by decide +kernel), by decide +kernel, by decide +kernel,
    h (by decide +kernel) (by decide +kernel), by decide +kernel, by decide +kernel⟩, by decide +kernel,
    h (by decide +kernel) (by decide +kernel), by decide +kernel⟩

/-- R129, R68, R71: step 2 for each door state, and a car that becomes HELD in it. -/
theorem test_meets_step_2 :
    (let s := inStep (atDoor .released (some .left) .locked .locked) 2;
      s.door.a.state = .released ∧ (s.window .a).state = .shut ∧ s.cfg.active = some line ∧ s.trip.state = .preparing ∧
        s.stepTwo.trip.state = .lifting) ∧
      (∀ st ∈ [DoorState.opened, .unsecured, .held],
        (let s := inStep (atDoor st none .standingOpen .locked) 2;
          s.door.a.state = st ∧ (s.stepTwoDoor .a).door.a.state = .closing ∧ s.stepTwo.trip.step = 2)) ∧
      (let s := inStep (atDoor .held none .standingOpen .locked) 1;
        s.door.a.state = .held ∧ (s.doorNotice .a).trip.lastAbandon = some .doors) ∧
      (let s := inStep parked 2;
        s.trip.step = 2 ∧ s.door.a.state = .locked ∧ s.door.b.state = .locked) ∧
      (let s := inStep closingDoor 2;
        s.notices = [] ∧ s.wrongSideOpen .a = false ∧ s.door.a.state = .closing ∧ s.door.a.tClose.isSome = true ∧
          s.door.a.cycle = some .close ∧ (s.stepTwoDoor .a) = s) := by
  decide +kernel

theorem test_meets_RecoverAndReferenceRunPrepare :
    (∀ s ∈ [strandedAt .confirmed 1199849, withHold (strandedAt .confirmed 1199849),
        withoutDrive (strandedAt .confirmed 1199849)],
      s.TakesRequests ∧ s.Secured ∧ s.cfg.commit = .idle ∧ s.cfg.active = some line ∧ s.trip.state = .stranded ∧
        s.brake.latch = false ∧ dirOfCode 0#8 = some .up ∧ s.pos.view.pos = .confirmed ∧
        stopAhead line .up s.pos.view.xP = some 1 ∧ stopAhead line .down s.pos.view.xP = some 0) ∧
      (∀ s ∈ [strandedAt .disputed 0, withHold (strandedAt .disputed 0), withoutDrive (strandedAt .disputed 0)],
        s.TakesRequests ∧ s.Secured ∧ s.cfg.commit = .idle ∧ s.trip.state = .stranded ∧ s.brake.latch = false ∧
          s.pos.view.pos ≠ .confirmed) ∧
      (let s := strandedAt .confirmed 1199849;
        (s.holds .a = false ∧ s.holds .b = false ∧ s.failedInterlock line { dispatched with kind := .recovery } = none) ∧
          (withHold s).holds .a = true ∧
          (withoutDrive s).failedInterlock line { dispatched with kind := .recovery } = some .drive) ∧
      (let s := strandedAt .disputed 0;
        s.failedInterlock line { dispatched with kind := .reference } = none ∧
          s.failedInterlock line { dispatched with kind := .recovery } = some .position) := by
  exact ⟨by decide +kernel, by decide +kernel, by decide +kernel, by decide +kernel⟩

theorem test_meets_StopPutsAControlledStop :
    (hauling.TakesRequests ∧ hauling.notices = [] ∧ hauling.trip.state = .running ∧
      hauling.trip.record = some { record57 with cls := .reduced }) ∧
      (let s : State := { hauling with
        trip := { hauling.trip with state := .creeping, record := some { record57 with controlled := some .alarm } } };
        s.TakesRequests ∧ s.notices = [] ∧ s.trip.state = .creeping) ∧
      (∀ st ∈ [TripState.preparing, .lifting, .settling, .intervened],
        (onTrip st).TakesRequests ∧ (onTrip st).notices = [] ∧ (onTrip st).Secured ∧ (onTrip st).trip.state = st) ∧
      (parked.TakesRequests ∧ parked.notices = [] ∧ parked.trip.state = .parked 0) := by
  exact ⟨by decide +kernel, by decide +kernel, by decide +kernel, by decide +kernel⟩

theorem test_meets_SetClassLowersTheClass :
    (∀ st ∈ [TripState.preparing, .lifting, .running, .creeping],
      (onTrip st).TakesRequests ∧ (onTrip st).trip.state.classChanges = true) ∧
      (onTrip .lifting).trip.record = some { record57 with cls := .reduced } ∧
      (onTrip .lifting).cfg.active = some line ∧ classOfCode 0#8 = some .normal ∧ classOfCode 1#8 = some .reduced ∧
      classOfCode 2#8 = some .inspection ∧ classRank .normal < classRank .reduced ∧
      classRank .reduced < classRank .inspection := by
  decide +kernel

/-- R87: UNCONFIGURED, a class code of 3, and PARKED. -/
theorem test_meets_the_rows_of_a_class_change :
    (let s : State := { parked with trip := { parked.trip with state := .unconfigured } };
      s.TakesRequests ∧ s.trip.state = .unconfigured) ∧
      (hauling.TakesRequests ∧ hauling.trip.state ≠ .unconfigured ∧ 2 < (3#8).toNat ∧ ¬2 < (2#8).toNat) ∧
      parked.TakesRequests ∧ ¬(parked.trip.state = .preparing ∨ parked.trip.state = .lifting ∨
        parked.trip.state = .running ∨ parked.trip.state = .creeping) := by
  decide +kernel

theorem test_meets_TripTimersExpire :
    ((onTrip .preparing).Secured ∧ (onTrip .preparing).trip.state = .preparing ∧
      (onTrip .preparing).trip.tPrep.isSome = true ∧ parked.trip.tPrep = none) ∧
      ((onTrip .lifting).Secured ∧ (onTrip .lifting).trip.state = .lifting ∧
        (onTrip .lifting).trip.tLift.isSome = true ∧ parked.trip.tLift = none) := by
  decide +kernel

theorem test_meets_DriveStatusIsHeard :
    parked.notices = [] ∧ ¬(parked.trip.state = .lifting ∧ parked.trip.liftPhase = .drive) ∧
      (State.reset.notices = [] ∧ State.reset.trip.state = .unconfigured) ∧
      (let s : State := { onTrip .lifting with brake := { normalBrakes with de := true } };
        s.notices = [] ∧ s.trip.state = .lifting ∧ s.trip.liftPhase = .drive ∧ s.Secured ∧ s.cfg.active = some line ∧
          s.requestsOpen = true ∧ s.brake.de = true ∧ s.brake.sb.stuck = false) := by
  decide +kernel

/-- A run with a number of references without a valid status since the last one. -/
def unheard (missed : Nat) : State := { hauling with
  trip := { hauling.trip with driveHeard := false, driveMissed := missed } }

theorem test_meets_a_new_drive_fault :
    (hauling.notices = [] ∧ hauling.trip.driveLast ≠ .fault ∧ hauling.trip.state ≠ .unconfigured ∧
      hauling.cfg.active = some line) ∧ hauling.LatchLaw := by
  refine ⟨by decide +kernel, ?_⟩
  unfold State.LatchLaw
  decide +kernel

/-- R80: the fifth reference without a status raises DRIVE_LOST in a run, once; with DE OFF it is not raised. -/
theorem test_drive_lost :
    .cause .driveLost ∉ (unheard 3).driveView.notices ∧ .cause .driveLost ∈ (unheard 4).driveView.notices ∧
      .cause .driveLost ∉ (unheard 5).driveView.notices ∧ (unheard 4).driveView.trip.driveMissed = 5 ∧
      .cause .driveLost ∉ ({ unheard 4 with brake := parked.brake } : State).driveView.notices := by
  decide +kernel

theorem test_meets_FaultsReadAndClear : parked.TakesRequests := by decide +kernel

theorem test_meets_BrakeResetClearsTheLatch :
    (serviced.TakesRequests ∧ serviced.cfg.active = some line ∧ serviced.brake.ebLift = none ∧
      serviced.trip.state = .stranded ∧ serviced.pos.view.settled = true ∧ serviced.trip.driveLast ≠ .fault ∧
      serviced.trip.driveLostNow = false ∧ serviced.link.a.live = true ∧ serviced.link.b.live = true ∧
      serviced.brake.sb.stuck = false ∧ serviced.brake.eb.stuck = false ∧ serviced.brake.latch = true) ∧
      (let s : State := { parked with brake := { normalBrakes with eb := ⟨.applied, .applied, none, false, false⟩ } };
        s.TakesRequests ∧ s.trip.state.isParked = true ∧ s.brake.latch = false ∧ s.brake.eb.command = .applied) := by
  decide +kernel

theorem test_meets_FeedbackIsRead :
    parked.brake.sb.feedback = .applied ∧ parked.brake.eb.feedback = .lifted ∧
      (parked.brake.eb.feedback ≠ .applied ∧ parked.brake.ebLift = none) ∧
      (let s : State := { parked with
        brake := { normalBrakes with eb := ⟨.lifted, .applied, none, false, false⟩, ebLift := some 1000 } };
        s.brake.eb.feedback ≠ .lifted ∧ s.brake.ebLift.isSome = true) ∧
      (hauling.brake.sb.feedback ≠ .applied ∧ hauling.Secured) ∧
      (let s : State := { onTrip .lifting with
        brake := { normalBrakes with sb := ⟨.lifted, .applied, none, false, false⟩, de := true }
        trip := { (onTrip .lifting).trip with liftPhase := .brake } };
        s.brake.sb.feedback ≠ .lifted ∧ s.Secured ∧ s.trip.state = .lifting ∧ s.trip.liftPhase = .brake) := by
  decide +kernel

theorem test_meets_StuckBrakesEndInEmergency :
    (State.resetWith Image.blank .lifted .lifted).LatchLaw ∧
      (∀ i ∈ [BrakeId.sb, .eb], ((State.resetWith Image.blank .lifted .lifted).brake.line i).applyTimer.isSome = true) ∧
      (let s : State := { parked with brake := { normalBrakes with ebLift := some 1000 } };
        s.brake.ebLift.isSome = true ∧ s.brake.latch = false) := by
  refine ⟨?_, by decide +kernel⟩
  unfold State.LatchLaw
  decide +kernel

theorem test_meets_EscalationCheckDecides :
    (serviced.cfg.active = some line ∧ serviced.brake.escalation.isSome = true ∧ serviced.notices = [] ∧
      serviced.pos.view.standstill = true) ∧
      (let s : State := { serviced with
        pos := { serviced.pos with view := { serviced.pos.view with standstill := false }, vmHistory := [225] } };
        s.pos.view.standstill = false ∧ s.load.aEffAt (s.currentZone line) / 2 = 450 ∧
          ((s.pos.vmHistory.headD 0 : Nat) - (s.pos.view.vm : Int)) * 2 = 450) ∧
      (let s : State := { serviced with
        pos := { serviced.pos with view := { serviced.pos.view with standstill := false }, vmHistory := [224] } };
        s.pos.view.standstill = false ∧ ((s.pos.vmHistory.headD 0 : Nat) - (s.pos.view.vm : Int)) * 2 < 450) ∧
      serviced.LatchLaw := by
  refine ⟨by decide +kernel, by decide +kernel, by decide +kernel, ?_⟩
  unfold State.LatchLaw
  decide +kernel

/-- A fault capture list with an entry of each given cause. -/
def captured (cs : List Cause) : State := { parked with
  brake := { normalBrakes with captures := cs.map fun c => ⟨c, c.severity, 1, 1, 1, none⟩ } }

theorem test_meets_CauseMovesTheSupervisor :
    (serviced.LatchLaw ∧ parked.LatchLaw ∧ emergency.LatchLaw ∧
      (captured [.startUp, .rollback, .liftFail, .sbStuck]).LatchLaw) ∧
      (serviced.brake.latch = true ∧ parked.brake.latch = false ∧ emergency.brake.state = .emergency ∧
      Cause.liftFail.severity = .recordOnly ∧ Cause.driveLost.severity = .service ∧ Cause.rollback.severity = .emergency) ∧
      (∃ e ∈ (captured [.startUp, .rollback, .liftFail, .sbStuck]).brake.captures, e.cause = .rollback) ∧
      (∀ e ∈ (captured [.startUp, .rollback, .liftFail, .sbStuck]).brake.captures, e.cause ≠ .driveLost) ∧
      4 ≤ (captured [.startUp, .rollback, .liftFail, .sbStuck]).brake.captures.length ∧
      (∀ e ∈ (captured [.startUp, .rollback, .liftFail]).brake.captures, e.cause ≠ .driveLost) ∧
      (captured [.startUp, .rollback, .liftFail]).brake.captures.length < 4 := by
  refine ⟨?_, by decide +kernel, by decide +kernel, by decide +kernel, by decide +kernel, by decide +kernel,
    by decide +kernel⟩
  unfold State.LatchLaw
  decide +kernel

/-- A result of a level and a line-maximum flag, taken by a supervisor in a state, after a previous level and flag. -/
def resulted (st : SupState) (last : Level) (lastFlag : Bool) (level : Level) (flag : Bool) : State := { parked with
  brake := { normalBrakes with state := st, lastLevel := last, lastFlag := lastFlag }
  env := { parked.env with result := { EnvResult.reset with level := level, lineMaxFlag := flag } } }

/-- R95: the rows of the table, with the state and the causes that follow. -/
theorem test_meets_an_envelope_result :
    let causes : State → List Cause := fun s => s.brakeResult.brake.captures.map (·.cause)
    ((resulted .normal .none false .warning false).brakeResult.brake.state = .warning ∧
      (resulted .warning .warning false .none false).brakeResult.brake.state = .normal ∧
      (resulted .service .service false .warning false).brakeResult.brake.state = .service) ∧
      causes (resulted .warning .warning false .service false) = [.overspeedService] ∧
      causes (resulted .service .service false .service false) = [] ∧
      causes (resulted .service .service false .emergency true) = [.overspeedEmergency, .lineMax] ∧
      causes (resulted .emergency .emergency true .emergency true) = [] ∧
      causes (resulted .normal .none false .warning true) = [.lineMax] := by
  decide +kernel

/-- R53, R56 to R58, R61: zone 1 begins at 500,000 mm; a pending cap comes into force at its own speed; the level of a speed one
above each threshold. -/
theorem test_meets_a_result_of_a_view :
    (line.ZoneOf 499999 0 ∧ line.ZoneOf 500000 1 ∧ line.zones[1]? = some ⟨500000, 6000, 120⟩) ∧
      (let e := { envelope with cap := some 12000, pendingCap := some 6000 };
        (e.view line estimator .running (some .up) (viewAt 600000 6000)).cap = some 6000 ∧
          (e.view line estimator .running (some .up) (viewAt 600000 6001)).cap = some 12000) ∧
      (∀ p ∈ [PosState.unreferenced, .disputed],
        (envelope.view line estimator .running none { viewAt 499999 0 with pos := p, xQ := 500000 }).result.zoneTerm =
          6000) ∧
      (envelope.view line estimator .settling (some .up) (viewAt 1200000 0)).result.vPerm = 0 ∧
      (∀ x ∈ [(0, Level.none), (1, .warning), (300, .warning), (301, .service), (600, .service), (601, .emergency)],
        (envelope.view line estimator .settling (some .up) (viewAt 1200000 x.1)).result.level = x.2) := by
  refine ⟨⟨⟨?_, _, rfl, .inl rfl⟩, ⟨?_, _, rfl, .inr (by decide)⟩, rfl⟩, by decide +kernel, by decide +kernel,
    by decide +kernel, by decide +kernel⟩ <;>
  · intro w r hw h
    match w, h with
    | 1, h => first | exact absurd h (by decide) | (cases hw; decide)
    | 2, _ => cases hw; decide
    | 3, _ => cases hw; decide
    | w + 4, _ => exact absurd hw (by simp [line])

theorem test_meets_SamplePublishesAView :
    (parked.cfg.active = some line ∧ parked.cfg.commit ≠ .loading ∧ State.reset.cfg.commit = .loading ∧
      State.reset.cfg.active = none ∧ parked.notices = [] ∧
      (parked.pos.sample line (parked.brake.sb.command == .applied) parked.runningDir).causes = []) ∧
      (∀ st ∈ [TripState.settling, .intervened],
        (onTrip st).cfg.active = some line ∧ (onTrip st).trip.state = st ∧ (onTrip st).pos.view.settled = true) ∧
      (let s : State := { onTrip .settling with pos := Monitor.reset };
        s.cfg.active = some line ∧ s.trip.state = .settling ∧ s.pos.view.settled = false) ∧
      (let s : State := { hauling with
          env := { hauling.env with result := { EnvResult.reset with restrictions := approach (-line.line.overtravel - 1) } } };
        s.cfg.active = some line ∧ s.trip.state.hauling = true ∧
          (∃ r, s.trip.record = some r ∧ r.overtravel = false) ∧
          (∃ e, s.env.result.restrictions = [] ++ [e] ∧ e.kind = .destination ∧
            e.distance < -(line.line.overtravel : Int)))  := by
  exact ⟨by decide +kernel, by decide +kernel, by decide +kernel, rfl, by decide +kernel, ⟨_, rfl, rfl⟩,
    ⟨_, rfl, rfl, by decide +kernel⟩⟩

/-- R83: the flag of the record and the cause, of a trip with its flag, at a distance from its destination. -/
def overtraveled (flag : Bool) (dist : Int) : Option Bool × Bool :=
  let s : State := { hauling with
    trip := { hauling.trip with record := some { record57 with overtravel := flag } }
    env := { hauling.env with result := { EnvResult.reset with restrictions := approach dist } } }
  (s.tripView.trip.record.map (·.overtravel), s.tripView.notices.contains (.cause .overtravel))

/-- R83: a distance of −1,000 raises nothing, and −1,001 raises OVERTRAVEL once. -/
theorem test_meets_overtravel :
    overtraveled false (-1000) = (some false, false) ∧ overtraveled false (-1001) = (some true, true) ∧
      overtraveled true (-1001) = (some true, false) := by
  decide +kernel

theorem test_meets_ChannelsCountAndRead :
    Monitor.reset.p.history.head? = some 0 ∧ Monitor.reset.q.history.head? = some 0 ∧
      (Monitor.reset.sample line true none).monitor.view.xP = 0 := by
  decide +kernel

/-- The two channels at given positions, in a position state. -/
def channelsAt (st : PosState) (p q : Int) : State := { parked with
  pos := { parked.pos with
    pos := st
    p := { parked.pos.p with offset := p }
    q := { parked.pos.q with offset := q } } }

theorem test_meets_MarkEventSetsThePosition :
    State.reset.cfg.active = none ∧
      ((channelsAt .unreferenced 0 0).cfg.active = some line ∧ line.mark? 1 = some 3000 ∧
        (channelsAt .unreferenced 0 0).refTrip = false ∧ (channelsAt .unreferenced 0 0).notices = [] ∧
        (channelsAt .unreferenced 0 0).pos.pos = .unreferenced) ∧
      (let s := channelsAt .confirmed 3250 2750;
        s.refTrip = false ∧ s.pos.pos = .confirmed ∧ distance (s.pos.p.position line.line.countsP) 3000 = 250 ∧
          distance (s.pos.q.position line.line.countsQ) 3000 = 250) ∧
      (let s := channelsAt .confirmed 3000 3251;
        distance (s.pos.p.position line.line.countsP) 3000 = 0 ∧ distance (s.pos.q.position line.line.countsQ) 3000 = 251) ∧
      (let s := channelsAt .confirmed 4501 3000;
        distance (s.pos.p.position line.line.countsP) 3000 = 1501) := by
  decide +kernel

/-- R24 to R26: marks in DISPUTED at the edge of W_corr, unknown numbers, and a mark in a REFERENCE trip. -/
theorem test_meets_other_marks :
    (let s := channelsAt .disputed 3250 2750;
      s.cfg.active = some line ∧ s.refTrip = false ∧ s.notices = [] ∧ s.pos.pos = .disputed ∧
        distance (s.pos.p.position line.line.countsP) 3000 = 250) ∧
      (let s := channelsAt .disputed 3251 3000;
        s.pos.pos = .disputed ∧ distance (s.pos.p.position line.line.countsP) 3000 = 251) ∧
      line.mark? 3 = none ∧
      (let s : State := { channelsAt .disputed 9000 0 with
          trip := { hauling.trip with record := some { record57 with kind := .reference } } };
        s.cfg.active = some line ∧ s.trip.record = some { record57 with kind := .reference } ∧ s.notices = []) := by
  decide +kernel

/-- A monitor whose channels have moved by a travel since the last eight samples. -/
def moved (st : PosState) (p q : Int) : Monitor :=
  { Monitor.reset with
    pos := st
    p := { Channel.reset with offset := p }
    q := { Channel.reset with offset := q } }

theorem test_meets_SampleMeasuresSpeedAndStandstill :
    (((moved .confirmed 8 9).sample line true none).monitor.pos = .confirmed ∧
      ((moved .confirmed 8 9).sample line true none).monitor.view.vP = 100) ∧
      (((moved .unreferenced (-8) (-9)).sample line true none).monitor.pos ≠ .confirmed ∧
        ((moved .unreferenced (-8) (-9)).sample line true none).monitor.view.vP = -100) ∧
      (({ Monitor.reset with still := 49 } : Monitor).sample line true none).monitor.view.settled = true ∧
      ((moved .confirmed 0 1).sample line true none).monitor.view.standstill = false ∧
      ((moved .confirmed 0 1).sample line true none).monitor.view.vP = 0 ∧
      (moved .confirmed 0 1).p.history.head? = some 0 ∧ (moved .confirmed 0 1).q.history.head? = some 0 := by
  decide +kernel

/-- The position state, the excess count and the resolving flag after a sample with the channels a distance apart. -/
def agreed (st : PosState) (far : Int) (excess : Nat) (resolving : Bool) : PosState × Nat × Bool :=
  let o := ({ moved st 0 far with excess := excess, resolving := resolving } : Monitor).sample line true none
  (o.monitor.pos, o.monitor.excess, o.monitor.resolving)

/-- R26, R27: the agreement test at W_agree 400, and the resolution. -/
theorem test_meets_agreement_and_resolution :
    agreed .confirmed 400 2 false = (.confirmed, 0, false) ∧ agreed .confirmed 401 1 false = (.confirmed, 2, false) ∧
      agreed .confirmed 401 2 false = (.disputed, 0, false) ∧ agreed .disputed 400 0 true = (.confirmed, 0, false) ∧
      agreed .disputed 401 0 true = (.disputed, 0, false) ∧ agreed .disputed 0 0 false = (.disputed, 0, false) ∧
      agreed .unreferenced 401 2 false = (.unreferenced, 2, false) ∧
      ((moved .confirmed 0 400).sample line true none).missed = none := by
  decide +kernel

/-- R31: the at-stop test at W_stop 150, where channel Q counts in DISPUTED alone. -/
theorem test_meets_the_stop_of_a_view :
    ([(PosState.confirmed, 1200150, 1200151), (.confirmed, 1200151, 1200150), (.disputed, 1200150, 1200150),
        (.disputed, 1200150, 1200151), (.unreferenced, 1200000, 1200000)].map fun x =>
      ((moved x.1 x.2.1 x.2.2).sample line true none).monitor.view.atStop) = [some 1, none, some 1, none, none] ∧
      line.stops[1]? = some ⟨1200000, none, none⟩ ∧
      (∀ y ∈ line.stops, distance 1200150 y.x ≤ line.line.stopWindow → y = ⟨1200000, none, none⟩) := by
  decide +kernel

/-- R28: the mark armed from below is missed one millimetre past the far end of its band, and not where the channel has turned
back; a second miss in a row makes the position DISPUTED. -/
theorem test_meets_a_missed_mark :
    (let m : Monitor := { moved .confirmed 4501 4501 with armed := some (1, .below), missedRun := 1 };
      let o := m.sample line true none;
      m.pos ≠ .unreferenced ∧ m.armed = some (1, .below) ∧ line.mark? 1 = some 3000 ∧
        line.line.idWindow < distance o.monitor.view.xP 3000 ∧ (3000 : Int) < o.monitor.view.xP ∧ o.missed = some 1 ∧
        o.monitor.pos = .disputed) ∧
      (let m : Monitor := { moved .confirmed 1499 1499 with armed := some (1, .below) };
        let o := m.sample line true none;
        line.line.idWindow < distance o.monitor.view.xP 3000 ∧ o.monitor.view.xP < (3000 : Int) ∧ o.missed = none) := by
  decide +kernel

/-- R28: the mark is armed at the first sample with channel P in its band. -/
theorem test_meets_an_armed_mark :
    let m : Monitor := { moved .confirmed 1500 1500 with bandTestDue := false }
    (m.pos ≠ .unreferenced ∧ m.bandTestDue = false ∧ m.movedInto ≠ some 1 ∧ m.p.history.getLast? = some 0 ∧
      (1, 3000) ∈ line.marks ∧ line.mark? 1 = some 3000 ∧
      distance (m.sample line true none).monitor.view.xP 3000 ≤ line.line.idWindow ∧ line.line.idWindow < distance 0 3000 ∧
      (m.sample line true none).monitor.armed = some (1, .below)) ∧
      ∀ j q, (j, q) ∈ line.marks → distance (m.sample line true none).monitor.view.xP q ≤ line.line.idWindow →
        j = 1 ∧ q = 3000 := by
  refine ⟨by decide +kernel, fun j q h => ?_⟩
  have h2 : (j, q) = (1, 3000) ∨ (j, q) = (2, 1800000) := by simpa [line] using h
  rcases h2 with h2 | h2 <;> cases h2
  · exact fun _ => ⟨rfl, rfl⟩
  · exact fun h3 => absurd h3 (by decide +kernel)

/-- R29, R32: divergence and drift at their limits. -/
theorem test_meets_divergence_and_drift :
    ([1600, 1601].map fun x => ((moved .confirmed x 0).sample line false none).monitor.diverged) = [false, true] ∧
      (Monitor.reset.hold = none ∧ (Monitor.reset.sample line true none).monitor.hold = some (0, 0) ∧
        (Monitor.reset.sample line false none).monitor.hold = none) ∧
      ([100, 101].map fun x => (({ moved .confirmed x x with hold := some (0, 0) } : Monitor).sample line true none).causes) =
        [[], [.driftUnderBrake]] ∧
      (({ moved .confirmed 101 101 with hold := some (0, 0) } : Monitor).sample line false none).causes = [] := by
  decide +kernel

/-- A monitor whose channels stood at given counts at the previous sample and read 0 now. -/
def came (p q : Int) (rollback forwardRun : Nat) : Monitor :=
  { Monitor.reset with
    p := { Channel.reset with lastCount := p }, q := { Channel.reset with lastCount := q }
    rollback := rollback, forwardRun := forwardRun }

/-- R33: the rollback of a sample at its limit, and the forward run. -/
theorem test_meets_rollback_of_a_sample :
    ([came 1229 0 0 0, came 1233 0 0 0, came (-41) 0 200 6, came (-41) 0 200 7, came 0 0 200 3].map fun m =>
      let o := m.sample line false (some .up)
      (o.monitor.view.travelP, o.monitor.view.travelQ, o.monitor.rollback, o.monitor.forwardRun, o.causes)) =
      [(-300, 0, 300, 0, []), (-301, 0, 0, 0, [.rollback]), (10, 0, 200, 7, []), (10, 0, 0, 0, []), (0, 0, 200, 3, [])] := by
  decide +kernel

theorem test_meets_ImbalanceOfEachDirection :
    (liveFigures line (linksOf 60 95 (some 7840)) (windowsOf .opened (some 0) 5 3)).up.u = 2400 ∧
      (liveFigures line (linksOf 250 0 none) ⟨Window.reset, Window.reset⟩).down.within = false ∧
      (liveFigures line (linksOf 60 60 none) ⟨Window.reset, Window.reset⟩).cars.a.payload = 4800 ∧
      (liveFigures line (linksOf 60 60 none) ⟨Window.reset, Window.reset⟩).cars.b.payload = 4800 := by
  decide +kernel

theorem test_meets_LoadAndBrakingCapability :
    line.zones[3]? = some ⟨2600000, 7000, 0⟩ ∧ line.line.aFloor ≤ line.line.aNom ∧
      (liveFigures line (linksOf 0 0 (some 40000)) ⟨Window.reset, Window.reset⟩).cars.b.weigh = some 40000 ∧
      (liveFigures line (linksOf 0 0 (some 40001)) ⟨Window.reset, Window.reset⟩).cars.b.weigh = none ∧
      ((windowsOf .opened (some 0) 5 3).get .a).state ≠ .shut ∧ ((windowsOf .opened (some 0) 5 3).get .b).state = .shut := by
  decide +kernel

theorem test_meets_RestrictionSpeedOfAView :
    (envelope.advance line .up 440000).list.length = 2 ∧
      (∀ r ∈ (envelope.advance line .up 1199000).list, r.distance ≤ line.line.overrun ∧ r.target ≤ 15000) := by
  decide +kernel

/-- R52 to R54: the boundary at 500,000 lies ahead of 0 and not of itself on the way UP; a change of zone works out a_r again;
an entry at distance 0 stays, and one at −1 is removed. -/
theorem test_meets_the_restriction_list :
    line.BoundaryAhead .up 0 1200000 500000 6000 ∧ line.BoundaryAhead .up 499999 500000 500000 6000 ∧
      line.BoundaryAhead .down 900000 0 900000 6000 ∧ (line.zones.map (·.start)).Pairwise (· < ·) ∧
      ((buildList line estimator .up 500000 1200000).map (·.position)) = [1200000] ∧
      ((buildList line estimator .up 0 500000).map fun x => (x.kind, x.position, x.target)) =
        [(.destination, 500000, 500)] ∧
      (estimator.snapshot.isSome = true ∧ envelope.cap.isSome = true ∧ envelope.zoneOfRecord ≠ some 1 ∧
        (envelope.rezone line estimator 500000).zoneOfRecord = some 1 ∧ (envelope.rezone line estimator 499999) = envelope) ∧
      (envelope.advance line .up 500000).list.length = 2 ∧ (envelope.advance line .up 500001).list.length = 1 ∧
      ({ viewAt 7 0 with pos := .disputed, xQ := 9 } : View).leading .up = some 9 ∧
      ({ viewAt 7 0 with pos := .disputed, xQ := 9 } : View).leading .down = some 7 :=
  ⟨⟨0, _, _, rfl, rfl, rfl, by decide⟩, ⟨0, _, _, rfl, rfl, rfl, by decide⟩, ⟨1, _, _, rfl, rfl, rfl, by decide⟩,
    by decide +kernel⟩

/-- R52: a RECOVERY trip and a REFERENCE trip that enter LIFTING. -/
theorem test_meets_the_build :
    hauling.cfg.active = some line ∧ record57.kind ≠ .reference ∧ record57.destination = some 1 ∧
      line.stops[1]? = some ⟨1200000, none, none⟩ ∧ hauling.pos.view.leading .up = some 0 ∧
      (hauling.buildEnvelope record57).env.list.length = 2 ∧
      (hauling.buildEnvelope { record57 with kind := .reference }).env.list = [] := by
  decide +kernel

/-- Departure 57 under way in a trip state, after a view at a distance from its destination, with its v_ref. -/
def approaching (st : TripState) (dist : Int) (why : Option StopReason) (vRef : Nat) (w : Option (Int × Nat)) : State :=
  { hauling with
    trip := { hauling.trip with state := st, record := some { record57 with controlled := why }, vRef := vRef, progress := w }
    env := { hauling.env with result := { EnvResult.reset with
      view := viewAt (1200000 - dist) 0, vPerm := min 10000 (curveSpeed 500 756 (brakingRoom line dist))
      restrictions := approach dist } } }

/-- R76: half the stop window is 75 mm, where the trip is SETTLING; the trip creeps from 3,000 mm on. -/
theorem test_meets_the_state_tests :
    ((approaching .creeping 75 none 300 none).env.result.destination = some 75 ∧
      (approaching .creeping 75 none 300 none).tripView.trip.state = .settling) ∧
      (approaching .creeping 76 none 300 none).tripView.trip.state = .creeping ∧
      (approaching .running 3000 none 1140 none).tripView.trip.state = .creeping ∧
      (approaching .running 3001 none 1140 none).tripView.trip.state = .running := by
  decide +kernel

/-- R74, R75: at 60,000 mm with v_ref 8,120 the curve of the destination is 8,115, and so is the new v_ref. -/
theorem test_meets_a_view_in_a_run :
    let u := approaching .running 60000 none 8120 none
    let curve : Restriction → Nat := fun _ => 8115
    (u.cfg.active = some line ∧ u.trip.state.hauling = true ∧ u.trip.record = some record57 ∧
      record57.markFound = false ∧ record57.profileCap = some 12000 ∧ u.env.result.destination = some 60000 ∧
      ((line.line.stopWindow / 2 : Nat) : Int) < 60000 ∧ ¬(60000 : Int) ≤ line.profile.creepDistance ∧
      u.trip.state ≠ .creeping ∧ u.env.result.view.pos ≠ .disputed ∧ record57.controlled = none ∧
      u.env.result.restrictions = approach 60000 ∧
      (∀ e ∈ u.env.result.restrictions, e.kind = .destination ∧ 5 = max 1 (e.ar * 3 / 4 / 100)) ∧
      8115 = min (if u.trip.vRef ≤ 8115 then min (u.trip.vRef + line.profile.accel / 100) 8115
        else max 8115 (u.trip.vRef - 5)) (u.env.result.vPerm - line.margin.profileMargin) ∧
      u.tripView.trip.vRef = 8115 ∧ u.tripView.trip.progress = some (0, 0)) ∧
      (∀ e ∈ u.env.result.restrictions, ∀ g q, g = (if e.kind = .destination then line.profile.creepSpeed else e.target) →
        q = g * g + 2 * (e.ar * 3 / 4) * (e.distance - line.line.overrun).toNat →
        (225000000 ≤ q → curve e = 15000) ∧
          (q < 225000000 → curve e * curve e ≤ q ∧ q < (curve e + 1) * (curve e + 1))) := by
  refine ⟨by decide +kernel, fun e he g q hg hq => ?_⟩
  have h : e = { kind := .destination, position := 1200000, target := 500, ar := 756, distance := 60000
                 vr := curveSpeed 500 756 (brakingRoom line 60000) } := by
    simpa [approaching, approach] using he
  subst h hg hq
  exact ⟨fun h => absurd h (by decide +kernel), fun _ => by decide +kernel⟩

/-- R78, R82: a controlled stop that has brought v_ref to 0 settles the trip; the no-progress window runs for 200 views. -/
theorem test_meets_a_controlled_stop_and_no_progress :
    ((approaching .running 60000 (some .stopped) 5 none).tripView.trip.state = .settling ∧
      (approaching .running 60000 (some .stopped) 6 none).tripView.trip.vRef = 1) ∧
      (approaching .running 60000 none 199 (some (0, 7))).tripView.trip.progress = none ∧
      (approaching .running 60000 none 200 (some (49, 198))).tripView.trip.progress = some (49, 199) ∧
      .cause .noProgress ∈ (approaching .running 60000 none 200 (some (49, 199))).tripView.notices ∧
      .cause .noProgress ∉ (approaching .running 60000 none 200 (some (50, 199))).tripView.notices := by
  decide +kernel

theorem test_meets_CarLinkTimers :
    (parked.link.get .a).liveness.isSome = true ∧ parked.notices = [] ∧ (State.reset.link.get .a).liveness = none := by
  decide +kernel

/-- The part with the car command record of car A shown as it stands. -/
def commanded : State := { parked with
  link := { parked.link with a := { parked.link.a with shown := parked.carCommand .a } } }

theorem test_meets_CarFlagsAndSetOnboard :
    (parked.TakesRequests ∧ carOfCode 1#8 = some .b ∧ (3#8).toNat < 4 ∧ be16 3#8 0xE7#8 = 999 ∧ 999 < be16 3#8 0xE8#8 ∧
      commanded.TakesRequests ∧ carOfCode 0#8 = some .a) ∧
      (∃ t, exec (.carFlags 0 [0, 0]) commanded = .next t ∧ t.carCommand .a = (commanded.link.get .a).shown) ∧
      ∃ t, exec (.carFlags 0 [0, 3]) commanded = .next t ∧ t.carCommand .a ≠ (commanded.link.get .a).shown :=
  ⟨by decide +kernel, ⟨_, rfl, by decide +kernel⟩, ⟨_, rfl, by decide +kernel⟩⟩

theorem test_meets_DoorReleaseAndOpen :
    (parked.TakesRequests ∧ parked.unconfigured = false ∧ carOfCode 0#8 = some .a ∧ parked.notices = [] ∧
      parked.trip.state.isParked = true) ∧
      ((parked.door.get .a).authority = none ∧ parked.authoritySide .a = some .left ∧ (parked.door.get .a).state = .locked ∧
        (parked.door.get .a).left = .locked ∧ (parked.door.get .a).right = .locked) ∧
      (let s : State := { parked with trip := { parked.trip with state := .parked 1 } };
        s.TakesRequests ∧ s.trip.state.isParked = true ∧ (s.door.get .a).authority = none ∧ s.authoritySide .a = none) ∧
      (let s := atDoor .released (some .left) .locked .locked;
        s.TakesRequests ∧ s.unconfigured = false ∧ s.notices = [] ∧ s.trip.state.isParked = true ∧
          (s.door.get .a).authority.isSome = true ∧ (s.link.get .a).live = true ∧
          (s.link.get .a).faults.doorDrive = false ∧ (s.door.get .a).state ≠ .closing ∧ (s.door.get .a).state ≠ .held ∧
          (s.link.get .a).slot = none) := by
  decide +kernel

/-- Car A at its platform 0 with its arrival flag armed, and the reading of the SB contact. -/
def arrived (st : DoorState) (l r : DoorReport) (sb : Contact) (slot : Option DoorCommand) : State :=
  { atDoor st none l r with
    door := { (atDoor st none l r).door with a := { (atDoor st none l r).door.a with arrival := true } }
    brake := { normalBrakes with sb := ⟨.applied, sb, none, false, false⟩ }
    link := { parked.link with a := { parked.link.a with slot := slot, tag := 7 } } }

/-- R122, 7.10: the grant waits for the SB contact; then the OPEN command stands in the slot under the next tag. -/
theorem test_meets_the_grant_on_arrival :
    (let s := arrived .locked .locked .locked .lifted none;
      s.notices = [] ∧ s.trip.state.isParked = true ∧ s.brake.sb.feedback = .lifted ∧ s.authoritySide .a = none ∧
        s.grantTest .a = s ∧
        ({ s with brake := { s.brake with sb := s.brake.sb.read .applied } } : State).authoritySide .a = some .left ∧
        (s.door.get .a).arrival = true ∧ (s.door.get .a).authority = none ∧ (s.door.get .a).state = .locked ∧
        (s.link.get .a).slot = none ∧ (s.link.get .a).faults.doorDrive = false ∧
        (s.door.get .b).authority = none ∧ (s.door.get .b).arrival = false) ∧
      (let t := (arrived .locked .locked .locked .applied none).grantTest .a;
        t.door.a.state = .released ∧ t.door.a.arrival = false ∧ t.link.a.slot = some .openDoors ∧ t.link.a.tag = 0) ∧
      (let t := (arrived .unsecured .moving .locked .applied (some .reopen)).grantTest .a;
        t.door.a.state = .opened ∧ t.link.a.slot = some .reopen ∧ t.link.a.tag = 7) := by
  decide +kernel

/-- R122: the end of SETTLING at stop 0 and outside of a stop, with auto_release set and the SB contact reading LIFTED. -/
theorem test_meets_the_arrival :
    ([some 0, none].map fun k =>
      let s : State := { hauling with
        trip := { hauling.trip with state := .settling }
        pos := { hauling.pos with view := { hauling.pos.view with atStop := k } } }
      (s.pos.view.settled, s.brake.sb.feedback, s.brake.latch, s.pos.view.stopWindowState.isParked,
        s.tripView.door.a.arrival, s.tripView.door.b.arrival)) =
      [(true, .lifted, false, true, true, true), (true, .lifted, false, false, false, false)] := by
  decide +kernel

/-- R123, R124: DOOR RELEASE of a car in UNSECURED, CLOSING and HELD, and DOOR OPEN in HELD. -/
theorem test_meets_a_release_out_of_locked :
    (∀ st ∈ [DoorState.unsecured, .closing, .held],
      let s := atDoor st none .standingOpen .locked;
      s.TakesRequests ∧ s.unconfigured = false ∧ s.notices = [] ∧ s.trip.state.isParked = true ∧
        (s.door.get .a).authority = none ∧ s.authoritySide .a = some .left ∧ (s.door.get .a).right = .locked ∧
        (s.door.get .a).allLocked = false ∧ (s.door.get .a).state = st) ∧
      (∀ l ∈ [DoorReport.standingOpen, .locked],
        let s := atDoor .held (some .left) l .locked;
        s.TakesRequests ∧ (s.link.get .a).live = true ∧ (s.door.get .a).authority.isSome = true ∧
          (s.link.get .a).faults.doorDrive = false ∧ (s.door.get .a).state = .held ∧ (s.link.get .a).slot = none ∧
          s.wrongSideOpen .a = false) := by
  decide +kernel

/-- A close cycle of car A in a phase, with its retry count and the command in its slot under tag 5. -/
def cycling (phase : CyclePhase) (retry : Nat) (slot : Option DoorCommand) : State := { closingDoor with
  door := { closingDoor.door with a := { closingDoor.door.a with cycle := some phase, retry := retry } }
  link := { parked.link with a := { parked.link.a with slot := slot, tag := 5 } } }

/-- Side reports of a car status record with taken tag 5. -/
def sides (l r : DoorReport) : CarStatus := ⟨l, r, 5, 0, 0, none, ⟨false, false, false, false⟩, ⟨false, false⟩⟩

/-- State, phase and retry count of car A, and the command in its slot, after a car status. -/
def cycledBy (l r : DoorReport) (s : State) : Option (DoorState × Option CyclePhase × Nat × Option DoorCommand) :=
  match exec (.carStatus .a (sides l r)) s with
  | .next t => some (t.door.a.state, t.door.a.cycle, t.door.a.retry, t.link.a.slot)
  | _ => none

/-- R126 to R128: what a car status does in each phase; with N_retry 3 the third obstruction reopens, the fourth holds. -/
theorem test_meets_a_car_status_in_a_close_cycle :
    (∀ p ∈ [CyclePhase.window, .close, .reopen], ∀ k ∈ [none, some DoorCommand.closeDoors],
      let s := cycling p 2 k;
      s.cfg.active = some line ∧ s.notices = [] ∧ s.trip.state.isParked = true ∧ (s.link.get .a).live = true ∧
        (s.door.get .a).state = .closing ∧ (s.door.get .a).cycle = some p ∧ (s.door.get .a).authority = some .left) ∧
      cycledBy .locked .locked (cycling .close 2 none) = some (.locked, none, 0, none) ∧
      cycledBy .locked .locked (cycling .reopen 2 (some .reopen)) = some (.locked, none, 0, none) ∧
      cycledBy .locked .locked (cycling .window 0 none) = some (.closing, some .window, 0, none) ∧
      cycledBy .obstructed .locked (cycling .close 2 (some .closeDoors)) = some (.closing, some .reopen, 3, some .reopen) ∧
      cycledBy .obstructed .locked (cycling .close 3 none) = some (.held, none, 4, some .reopen) ∧
      cycledBy .standingOpen .locked (cycling .reopen 3 (some .reopen)) = some (.closing, some .close, 3, some .closeDoors) ∧
      cycledBy .moving .locked (cycling .reopen 3 none) = some (.closing, some .reopen, 3, none) :=
  ⟨by decide +kernel, by decide +kernel, by decide +kernel, by decide +kernel, by decide +kernel, by decide +kernel,
    by decide +kernel, by decide +kernel⟩

/-- R126, R127: a command not yet taken, with another tag taken: an obstruction changes nothing; and a hold that ends. -/
theorem test_meets_a_command_not_taken_and_a_hold :
    (let s : State := { cycling .close 2 (some .closeDoors) with
        link := { parked.link with a := { parked.link.a with slot := some .closeDoors, tag := 6 } } };
      (s.link.get .a).tag ≠ (sides .obstructed .locked).tag.val ∧
        cycledBy .obstructed .locked s = some (.closing, some .close, 2, some .closeDoors)) ∧
      cycledBy .locked .locked (atDoor .held (some .left) .standingOpen .locked) = some (.locked, none, 0, none) := by
  decide +kernel

/-- R125, R126: a cycle with the window SHUT and with a grant in flight, and the notice of the shutting. -/
theorem test_meets_the_start_of_a_cycle :
    (((boarding .shut 0 []).startCycle .a).door.a.cycle = some .close ∧ ((boarding .shut 0 []).window .a).state = .shut) ∧
      (let s := boarding .opened 1 [grantOf .token];
        (s.window .a).state ≠ .shut ∧ (s.startCycle .a).door.a.cycle = some .window ∧
          ((s.startCycle .a).window .a).state = .closing) ∧
      (((cycling .window 0 none).door.get .a).cycle = some .window ∧
        ((cycling .window 0 none).door.get .a).allLocked = false ∧
        ((cycling .window 0 none).windowShutForDoor .a).link.a.slot = some .closeDoors) ∧
      (let s : State := { atDoor .closing none .locked .locked with
          door := { parked.door with a := { parked.door.a with state := .closing, cycle := some .window } } };
        (s.door.get .a).cycle = some .window ∧ (s.door.get .a).allLocked = true) := by
  decide +kernel

theorem test_meets_DoorCloseCancelAndHold :
    (let s := atDoor .released (some .left) .locked .locked;
      s.TakesRequests ∧ s.cfg.active = some line ∧ s.notices = [] ∧ s.trip.state.isParked = true ∧
        (s.window .a).state = .shut ∧ (s.link.get .a).live = true ∧ s.NoViolation .a ∧
        (s.door.get .a).authority.isSome = true ∧ (s.door.get .a).state = .released ∧ (s.link.get .a).slot = none ∧
        (s.door.get .a).left = .locked ∧ (s.door.get .a).right = .locked) ∧
      (let s := atDoor .opened (some .left) .standingOpen .locked;
        s.TakesRequests ∧ (s.window .a).state = .shut ∧ s.NoViolation .a ∧ (s.door.get .a).authority.isSome = true ∧
          (s.door.get .a).state = .opened ∧ (s.link.get .a).slot = none) ∧
      (closingDoor.TakesRequests ∧ closingDoor.cfg.active = some line ∧ closingDoor.notices = [] ∧
        closingDoor.trip.state.isParked = true ∧ (closingDoor.window .a).state = .shut ∧
        (closingDoor.link.get .a).live = true ∧ closingDoor.NoViolation .a ∧
        (closingDoor.door.get .a).authority.isSome = true ∧ (closingDoor.door.get .a).state = .closing ∧
        (closingDoor.door.get .a).cycle = some .close ∧ (closingDoor.door.get .a).tClose.isSome = true) :=
  ⟨by decide +kernel, by decide +kernel, by decide +kernel⟩

theorem test_meets_WindowsOpenCloseAndCarry :
    (let s : State := { boarding .shut 0 [] with board := ⟨⟨Window.reset, Window.reset⟩, [300, 0, 0, 0, 0, 0], []⟩ };
      s.TakesRequests ∧ s.cfg.commit = .idle ∧ s.cfg.active = some line ∧ s.notices = [] ∧ (s.window .a).state = .shut ∧
        s.trip.state ≠ .preparing ∧ (s.door.get .a).state = .opened ∧ s.carPlatform .a = some 0) ∧
      (let s := boarding .opened 1 [grantOf .token];
        s.TakesRequests ∧ s.notices = [] ∧ (s.window .a).state = .opened ∧ (s.window .a).platform = some 0 ∧
          0 < (s.window .a).inflight) ∧
      (let s := boarding .opened 1 [];
        s.TakesRequests ∧ s.notices = [] ∧ (s.window .a).state = .opened ∧ (s.window .a).platform = some 0 ∧
          (s.window .a).inflight = 0 ∧ (s.door.get .a).cycle ≠ some .window ∧ s.trip.state ≠ .preparing) ∧
      ((parked.window .a).state ≠ .opened ∧ (3#8).toNat ≤ 5 ∧ (line.platform? (3#8).toNat).isSome = true ∧
        parked.bound (3#8).toNat = false) :=
  ⟨by decide +kernel, by decide +kernel, by decide +kernel, by decide +kernel⟩

theorem test_meets_CreditRequestMakesAGrant :
    (let s := deciding 217;
      s.cfg.active = some line ∧ (s.gate 2).decision = some ⟨⟨.token, 77, 2, 9⟩, some 0, .standard, none, 0⟩ ∧
        s.grantAt 2 = none ∧ s.openWindowAt 0 = some .a ∧
        (s.board.grants.any fun y => y.kind == .token && y.id == 77 && y.gate != 2) = false ∧
        (s.window .a).granted ≠ 65535 ∧ s.admittedSum .a < line.car.capacity ∧
        s.admittedSum .a < line.car.capacity * thresholdEighths (line.threshold.code .standard) / 8) ∧
      (let s := deciding 218;
        s.admittedSum .a < line.car.capacity ∧
          line.car.capacity * thresholdEighths (line.threshold.code .standard) / 8 ≤ s.admittedSum .a) := by
  decide +kernel

/-- R144: a decision that meets each answer but a grant: another grant at its gate, no OPEN window at its platform, a grant of
the same id at another gate, and a full car. -/
theorem test_meets_a_credit_request_refused :
    (let s : State := { deciding 0 with board := (boarding .opened 0 [grantOf .token]).board };
      (s.grantAt 2).isSome = true ∧ (s.gate 2).decision.isSome = true) ∧
      (let s : State := { deciding 0 with board := (boarding .closing 0 []).board };
        (s.grantAt 2).isSome = false ∧ (some 0).bind s.openWindowAt = none) ∧
      (let s : State := { deciding 0 with board := (boarding .opened 0 [{ grantOf .token with gate := 5 }]).board };
        (s.grantAt 2).isSome = false ∧ (some 0).bind s.openWindowAt = some .a ∧
          ∃ y ∈ s.board.grants, y.kind = .token ∧ y.id = 77 ∧ y.gate ≠ 2) ∧
      (let s := deciding 218;
        (some 0).bind s.openWindowAt = some .a ∧ ¬(∃ y ∈ s.board.grants, y.kind = .token ∧ y.id = 77 ∧ y.gate ≠ 2)) := by
  decide +kernel

/-- An OPEN window, a CLOSING one with two grants in flight, and one that its last grant shuts. -/
def ending (k : CredKind) : List State :=
  [boarding .opened 1 [grantOf k], boarding .closing 1 [grantOf k, { grantOf k with gate := 5, id := 78 }],
    boarding .closing 1 [grantOf k]]

theorem test_meets_GrantsEnd :
    (∀ k ∈ [CredKind.pass, .token], (grantOf k).kind = k ∧ ∀ s ∈ ending k,
      s.unconfigured = false ∧ s.bus.outstanding = some (2, true) ∧ s.notices = [] ∧ s.grantAt 2 = some (grantOf k) ∧
        s.ShutsAlone .a) ∧
      (boarding .opened 1 []).grantAt 2 = none := by
  decide +kernel

/-- R149, R153: a PASSED answer without a grant adds a protocol error; an answer of another gate, or without an outstanding
poll, is discarded. -/
theorem test_meets_answers_that_do_not_fit :
    (let s := boarding .opened 1 [];
      s.unconfigured = false ∧ s.bus.outstanding = some (2, true) ∧ s.notices = [] ∧ s.grantAt 2 = none ∧
        (match exec (.passed 2) s with
          | .next t => some (t.gate 2).protocolErrors
          | _ => none) = some 1) ∧
      parked.bus.outstanding = none ∧ (5 ≠ 2 ∧ exec (.passed 5) (boarding .opened 1 [grantOf .token]) =
        .next ((boarding .opened 1 [grantOf .token]).recordTaken .gateBus)) :=
  ⟨by decide +kernel, by decide +kernel, by decide, rfl⟩

theorem test_meets_GateAnswers :
    (let s : State := { boarding .opened 0 [] with store := (holding [77]).store };
      s.unconfigured = false ∧ s.notices = [] ∧ s.bus.outstanding = some (2, true) ∧ s.cfg.commit ≠ .loading ∧
        (∀ e ∈ s.bus.gates, e.decision = none) ∧ 2 ≤ s.bus.gates.length ∧
        s.failedVerdict 2 ⟨.token, 77#32, 2, 9#16⟩ = none ∧
        s.failedVerdict 2 ⟨.token, 77#32, 2, 8#16⟩ = some .wrongDay ∧
        s.failedVerdict 2 ⟨.token, 77#32, 15, 9#16⟩ = some .classBlocked ∧
        s.failedVerdict 2 ⟨.token, 0x0BEE0001#32, 2, 9#16⟩ = some .denied ∧
        s.failedVerdict 2 ⟨.pass, 78#32, 2, 9#16⟩ = some .unknownPass ∧
        s.failedVerdict 2 ⟨.pass, 77#32, 2, 9#16⟩ = some .expired) ∧
      parked.failedVerdict 2 ⟨.token, 77#32, 2, 9#16⟩ = some .noCar ∧
      (boarding .opened 1 [grantOf .token]).failedVerdict 2 ⟨.token, 77#32, 2, 9#16⟩ = some .gateBusy ∧
      State.reset.failedVerdict 2 ⟨.token, 77#32, 2, 9#16⟩ = some .outOfService ∧
      ((∃ e ∈ (deciding 0).bus.gates, e.decision.isSome = true) ∧ (deciding 0).bus.outstanding = some (2, true) ∧
        (deciding 0).failedVerdict 2 ⟨.token, 77#32, 2, 8#16⟩ = some .wrongDay) :=
  ⟨by decide +kernel, by decide +kernel, by decide +kernel, by decide +kernel, by decide +kernel⟩

/-- R153: from the poll position 0 the gate 2 is polled next, and from 5 it is gate 2 again. -/
theorem test_meets_the_next_poll :
    (boarding .opened 0 []).NextPoll 2 ∧
      ({ boarding .opened 0 [] with bus := { (boarding .opened 0 []).bus with position := 5 } } : State).NextPoll 2 := by
  refine ⟨⟨by decide, by decide, by decide +kernel, .inl ⟨by decide +kernel, fun k h1 h2 => ?_⟩⟩,
    ⟨by decide, by decide, by decide +kernel, .inr ⟨fun k h1 h2 => ?_, fun k h1 h2 => ?_⟩⟩⟩
  · obtain rfl : k = 1 := by
      have : 0 < k := h1
      omega
    decide +kernel
  · have h3 : 5 < k := h1
    interval_cases k <;> decide +kernel
  · obtain rfl : k = 1 := by omega
    decide +kernel

/-- The gate 2 ONLINE with 4 misses. -/
def missing (s : State) : State := { s with
  bus := { s.bus with gates := s.bus.gates.modify 1 fun g => { g with state := .online, misses := 4 } } }

theorem test_meets_GateEnableAndPollTimeout :
    (parked.TakesRequests ∧ parked.cfg.active = some line ∧ parked.notices = []) ∧
      (∀ k ∈ [CredKind.pass, .token], ∀ s ∈ ending k, (missing s).TakesRequests ∧ (missing s).cfg.active = some line ∧
        (missing s).notices = [] ∧ (line.gate? 2).isSome = true ∧ ((missing s).gate 2).decision = none ∧
        ((missing s).gate 2).state = .online ∧ 4 ≤ ((missing s).gate 2).misses ∧
        (missing s).grantAt 2 = some (grantOf k) ∧ (missing s).ShutsAlone .a ∧ (missing s).bus.outstanding = some (2, true)) ∧
      (∀ g ∈ [2, 5], parked.grantAt g = none ∧ (line.gate? g).isSome = true ∧ (parked.gate g).decision = none ∧
        (parked.gate g).state = .offline) ∧
      (parked.grantAt 7 = none ∧ (line.gate? 7).isSome = true ∧ (parked.gate 7).decision = none ∧
        (parked.gate 7).state = .disabled) ∧
      (boarding .opened 0 []).bus.outstanding = some (2, true) ∧ (boarding .opened 0 []).grantAt 2 = none := by
  decide +kernel

theorem test_meets_LinkFailuresAndSending :
    PartnerLink.carB = carWire .b ∧
      (let s := boarding .opened 0 [];
        s.unconfigured = false ∧ s.notices = [] ∧ s.bus.outstanding = some (2, true) ∧ s.grantAt 2 = none ∧
          (s.gate 2).misses < 4 ∧ (5#8).toNat ≠ 2 ∧ (s.wires.get .gateBus).rx.phase = .hunt) ∧
      ((assembling ⟨.body, 4, [1], true⟩).wires.get .carA).rx.gap = true ∧ (parked.wires.get .carA).rx.gap = false ∧
      (parked.wires.get .carA).waiting = [] ∧
      (({ parked.wires with gateBus := ⟨Assembler.idle, none, [.poll 2 true]⟩ } : Links).get .gateBus).waiting =
        [.poll 2 true] := by
  decide +kernel

/-! ### Single commands -/

/-- What the state after a command answers, or `no` where the command does not answer a next state. -/
def after {α : Type} (no : α) (c : Instr) (s : State) (f : State → α) : α :=
  match exec c s with
  | .next t => f t
  | _ => no

/-- What the transmitter took after a command. -/
def sentAfter (c : Instr) (s : State) : Option OutFrame := after none c s fun t => t.port.sending

/-- 10.6: bytes in HUNT that are not the start byte change nothing; a length byte of 1 is a length error. -/
theorem test_bytes :
    after false (.incomingByte 0x11) parked (fun t => decide (t = parked)) = true ∧
      after 9 (.incomingByte 1) (porting ⟨.header, 0, [], false⟩ [] [] false) (fun t => t.port.linkErrors) = 1 := by
  decide +kernel

/-- R174: a reply carries the request type plus 0x80 and its sequence byte. -/
theorem test_reply_echoes : sentAfter (.setDay 0x42 [1, 0]) parked = some (.reply ⟨0xB8#8, 0x42, .plain .ok⟩) := by
  decide +kernel

/-- R174: a payload of a wrong length is answered LENGTH. -/
theorem test_length : sentAfter (.setDay 1 [1]) parked = some (.reply ⟨0xB8#8, 1, .plain .length⟩) := by decide +kernel

/-- R3: a value outside its arrival range is refused RANGE; a TIMING field without a value keeps its default. -/
theorem test_config_write_range :
    sentAfter (.configWrite 1 [1, 0, 0, 1, 2, 0, 0, 0x3A, 0x99]) parked = some (.reply ⟨0x81#8, 1, .plain .range⟩) := by
  decide +kernel

/-- R67: the rows of DISPATCH: an unknown class RANGE, the stop of departure RANGE, UNREFERENCED STATE, a latch STATE. -/
theorem test_dispatch_rows :
    sentAfter (.dispatch 1 [1, 3]) parked = some (.reply ⟨0x90#8, 1, .plain .range⟩) ∧
      sentAfter (.dispatch 1 [0, 0]) parked = some (.reply ⟨0x90#8, 1, .plain .range⟩) ∧
      sentAfter (.dispatch 1 [1, 0]) serviced = some (.reply ⟨0x90#8, 1, .plain .state⟩) ∧
      sentAfter (.dispatch 1 [1, 0]) hauling = some (.reply ⟨0x90#8, 1, .plain .busy⟩) := by
  decide +kernel

/-- R69: a departure of a loaded line against the imbalance limit is abandoned with IMBALANCE (3.9). -/
theorem test_imbalance_abandons :
    after none (.dispatch 1 [2, 0])
      { parked with load := ⟨some (liveFigures line (linksOf 40 110 none) ⟨Window.reset, Window.reset⟩), none, ⟨0, 0⟩, none⟩ }
      (fun t => t.trip.lastAbandon) = some .imbalance := by
  decide +kernel

/-- R80, R96: a drive FAULT in a run takes the line to SERVICE, with SB APPLIED and DE OFF. -/
theorem test_drive_fault_in_a_run :
    after none (.driveStatus ⟨.fault, 7, 0⟩) hauling
      (fun t => some (t.brake.state, t.brake.sb.command, t.brake.de, t.trip.state, t.brake.captures.map (·.cause))) =
      some (.service, .applied, false, .intervened, [.driveFault]) := by
  decide +kernel

/-- R96: an EMERGENCY cause in a run also commands EB APPLIED; in SERVICE it escalates. -/
theorem test_emergency_cause :
    ((hauling.takeCause .rollback).brake.state = .emergency ∧ (hauling.takeCause .rollback).brake.eb.command = .applied) ∧
      (serviced.takeCause .sbStuck).brake.state = .emergency := by
  decide +kernel

/-- R118, R124: DOOR OPEN advances the tag; a record that takes it empties the slot. -/
theorem test_command_slot :
    after none (.doorOpen 1 [0]) (atDoor .released (some .left) .locked .locked)
      (fun t => some ((t.link.a).slot, (t.link.a).tag)) = some (some .openDoors, 1) := by
  decide +kernel

/-- R115, R43, 7.3: in-delta 10 over the wrap of the counter with out-delta 2, its two changes taken in either order. -/
theorem test_onboard_over_the_wrap :
    (4#16 - 65530#16).toNat = 10 ∧
      ∀ first, (({ parked with link := linksOf 60 0 none } : State).deltaStep .a 10 2 first).link.a.onboard = 68 := by
  decide +kernel

/-- R165: PASS READ DOWN from an end of the table returns the records in decreasing order. -/
theorem test_pass_read_down :
    sentAfter (.passRead 1 []) { holding [3, 5, 8] with
      store := { (holding [3, 5, 8]).store with cursor := 1024, cursorDir := .down } } =
      some (.reply ⟨0xB2#8, 1, .passes [⟨8, 2, 0, 8, 5, none, none⟩, ⟨5, 2, 0, 8, 5, none, none⟩, ⟨3, 2, 0, 8, 5, none, none⟩]
        0⟩) := by
  decide +kernel

/-- R170: the day advances at midnight. -/
theorem test_midnight :
    after (0, 0) .clockTick { parked with store := { parked.store with clock := 86399 } }
      (fun t => (t.store.day, t.store.clock)) = (10, 0) := by
  decide +kernel

/-- R153: the fifth consecutive miss makes an ONLINE gate OFFLINE, and its grant ends in an unverified commit (R148). -/
theorem test_fifth_miss :
    after none .pollTimeout { boarding .opened 1 [grantOf .token] with
      bus := { (boarding .opened 1 []).bus with
        gates := parked.bus.gates.modify 1 fun g => { g with state := .online, misses := 4 } } }
      (fun t => some ((t.gate 2).state, (t.window .a).pending, (t.window .a).unverified, t.store.ring)) =
      some (.offline, 2, 1, [77]) := by
  decide +kernel

/-- R139, R147: the end of the last grant of a CLOSING window shuts it; the pending count of 1, or of 2 after a commit, is the
carry-over of platform 0. -/
theorem test_last_grant_shuts :
    after none (.abandoned 2) (boarding .closing 1 [grantOf .token]) (fun t => some ((t.window .a).state, t.board.carry[0]?)) =
        some (.shut, some 1) ∧
      after none (.passed 2) (boarding .closing 1 [grantOf .token]) (fun t => some ((t.window .a).state, t.board.carry[0]?)) =
        some (.shut, some 2) := by
  decide +kernel

/-- R43: an in-delta that lowers pending gives passing figures, whichever change is first; the next event other than a STATUS
ends them. -/
theorem test_passing_figures_end :
    ∀ first, (let t := (boarding .opened 5 []).deltaStep .a 2 0 first;
      t.load.passing.isSome = true ∧ (t.window .a).pending = 3 ∧
        after false .clockTick t (fun u => u.load.passing.isNone) = true) := by
  decide +kernel

/-! ### Clauses of the wider statements -/

/-- R84, R98: a NORMAL supervisor in each trip state that an intervention moves, and in those it leaves. -/
theorem test_meets_the_notice_of_an_intervention :
    (∀ st ∈ [TripState.preparing, .lifting, .running, .creeping, .settling, .intervened, .stranded, .unconfigured, .parked 3],
      (onTrip st).LatchLaw ∧ (onTrip st).brake.latch = false ∧ (onTrip st).brake.state ≠ .emergency ∧
        (onTrip st).trip.state = st) ∧
      (serviced.brake.state ≠ .emergency ∧ (atTheEnvelope.takeCause .driveLost).trip.vRef = 0 ∧
        (atTheEnvelope.takeCause .driveLost).env.vPerm = 0 ∧ (atTheEnvelope.takeCause .liftFail).trip = atTheEnvelope.trip) := by
  unfold State.LatchLaw
  decide +kernel

/-- R121: the conditions of a car with authority fail at another stop, with SB LIFTED, and in STRANDED. -/
theorem test_meets_authority_that_fails :
    (∀ st ∈ [DoorState.released, .opened, .held],
      let u : State := { atDoor st (some .left) .locked .locked with trip := { parked.trip with state := .parked 1 } };
      (u.door.get .a).authority.isSome = true ∧ u.authoritySide .a = none ∧ u.brake.sb.command = .applied ∧
        (u.authorityTests.door.get .a).state = (if st = .released then .locked else if st = .opened then .unsecured else st)) ∧
      (let u : State := { atDoor .released (some .left) .locked .locked with brake := hauling.brake };
        u.authoritySide .a = none ∧ TripState.stranded.isParked = false ∧ TripState.stranded ≠ .preparing ∧
          (u.door.get .a).authority.isSome = true) ∧
      ((atDoor .released (some .left) .locked .locked).authoritySide .a).isSome = true := by
  decide +kernel

/-- R121: a sample whose view fails the conditions, the SB contact, and the lift of SB. -/
theorem test_meets_an_event_that_withdraws :
    (∀ m ∈ [Monitor.reset, { parked.pos with p := { parked.pos.p with offset := 1 } }, { parked.pos with
          p := { parked.pos.p with offset := 151 }, q := { parked.pos.q with offset := 151 } }],
      let s : State := { atDoor .opened (some .left) .standingOpen .locked with pos := m };
      let v := (s.pos.sample line (s.brake.sb.command == .applied) s.runningDir).monitor.view;
      s.cfg.active = some line ∧ s.cfg.commit ≠ .loading ∧ (v.settled = false ∨ v.pos ≠ .confirmed ∨ v.atStop = none)) ∧
      parked.brake.sb.feedback = .applied ∧
      (let s : State := { onTrip .lifting with trip := { (onTrip .lifting).trip with liftPhase := .drive } };
        s.notices = [] ∧ s.trip.state = .lifting ∧ s.trip.liftPhase = .drive) := by
  decide +kernel

/-- The memory flags of car A. -/
def remembering (f : Bool) (s : State) : State := { s with
  door := { s.door with a := { s.door.a with memUnlocked := f, memNoAuthority := f, memWrongSide := f } } }

/-- R130: each violation, with its memory flag clear and set. -/
theorem test_meets_a_violation :
    (∀ f ∈ [false, true],
      (let u : State := remembering f { hauling with door := (atDoor .locked none .moving .locked).door };
        (u.link.get .a).live = true ∧ u.unlockedRun .a = true ∧ (u.door.get .a).memUnlocked = f) ∧
        (let u := remembering f (atDoor .unsecured none .locked .moving);
          (u.link.get .a).live = true ∧ u.unlockedRun .a = false ∧ u.openWithoutAuthority .a = true ∧
            (u.door.get .a).memNoAuthority = f ∧ (u.door.get .a).authority = none) ∧
        (let u := remembering f (atDoor .opened (some .left) .standingOpen .closed);
          u.wrongSideOpen .a = true ∧ (u.door.get .a).memWrongSide = f ∧ u.trip.state.isParked = true ∧
            (u.authoritySide .a).isSome = true ∧ (sides .standingOpen .closed).right ≠ .locked)) ∧
      (let u : State := { parked with link := { parked.link with a := CarLink.reset } }; (u.link.get .a).live = false) ∧
      hauling.notices = [] ∧ (hauling.link.get .a).live = true ∧ (hauling.door.get .a).memUnlocked = false ∧
      hauling.LatchLaw := by
  unfold State.LatchLaw
  decide +kernel

/-- The part IDLE without an active configuration. -/
def unset : State := { State.reset with cfg := { State.reset.cfg with commit := .idle } }

/-- R123, R128, R140, R141, R156, R111, R115: a state for each row that refuses. -/
theorem test_meets_the_rows_that_refuse :
    (unset.TakesRequests ∧ unset.cfg.active = none ∧ parked.TakesRequests ∧ parked.cfg.active.isSome = true ∧
      1 < (2#8).toNat ∧ 4 ≤ (4#8).toNat ∧ carOfCode 0#8 = some .a ∧
      ((atDoor .released (some .left) .locked .locked).door.get .a).authority.isSome = true ∧
      hauling.TakesRequests ∧ hauling.trip.state.isParked = false ∧ hauling.trip.state ≠ .stranded ∧
      (let s : State := { parked with trip := { parked.trip with state := .parked 1 } };
        s.trip.state.isParked = true ∧ s.authoritySide .a = none)) ∧
      (5 < (6#8).toNat ∧ line.platform? (5#8).toNat = none ∧ (boarding .opened 0 []).TakesRequests ∧
        ((boarding .opened 0 []).window .a).platform = some (0#8).toNat ∧ (line.platform? 0).isSome = true) ∧
      ((0#8).toNat < 1 ∧ 12 < (13#8).toNat ∧ line.gate? (1#8).toNat = none ∧ (deciding 0).TakesRequests ∧
        ((deciding 0).gate (2#8).toNat).decision.isSome = true) := by
  decide +kernel

/-- R128: DOOR CANCEL of a cycle, of a hold and of a command alone, in PARKED and STRANDED, of a car with and without a link. -/
theorem test_meets_a_cancel :
    (∀ st ∈ [DoorState.closing, .held], ∀ w ∈ [TripState.parked 0, .stranded], ∀ l ∈ [DoorReport.locked, .moving],
      let s : State := { atDoor st none l .locked with trip := { parked.trip with state := w } };
      s.TakesRequests ∧ s.cfg.active.isSome = true ∧ (s.trip.state.isParked = true ∨ s.trip.state = .stranded) ∧
        s.notices = [] ∧ s.wrongSideOpen .a = false ∧ (s.door.get .a).state = st) ∧
      (let s : State := { atDoor .unknown none .locked .locked with
          link := ⟨{ CarLink.reset with slot := some .openDoors }, parked.link.b⟩ };
        (s.link.get .a).live = false ∧ (s.link.get .a).slot.isSome = true ∧ s.wrongSideOpen .a = false) ∧
      ((parked.link.get .a).slot = none ∧ (parked.door.get .a).state ≠ .closing ∧ (parked.door.get .a).state ≠ .held) := by
  decide +kernel

/-- R113: a link is lost under an OPEN window with and without a grant in flight, in a run, and at rest. -/
theorem test_meets_a_lost_link :
    (let s := boarding .opened 1 [grantOf .token];
      (s.link.get .a).liveness.isSome = true ∧ s.notices = [] ∧ (s.window .a).state = .opened ∧ 0 < (s.window .a).inflight ∧
        (s.door.get .a).authority.isSome = true) ∧
      (let s := boarding .opened 1 [];
        (s.window .a).state = .opened ∧ (s.window .a).inflight = 0 ∧ (s.window .a).platform = some 0 ∧
          0 < s.board.carry.length ∧ (s.window .b).state ≠ .opened ∧ (s.door.get .b).arrival = false) ∧
      ((parked.window .a).state ≠ .opened ∧ parked.Secured ∧ parked.trip.state ≠ .lifting ∧
        parked.trip.state ≠ .running ∧ parked.trip.state ≠ .creeping) ∧
      (∀ st ∈ [TripState.lifting, .running, .creeping], (onTrip st).trip.state = st ∧ (onTrip st).notices = [] ∧
        ((onTrip st).link.get .a).liveness.isSome = true) := by
  decide +kernel

/-- A car status with the doors locked and the ALARM flag, with an in counter, taking tag 5. -/
def alarming (alarm : Bool) (n : BitVec 16) : CarStatus :=
  ⟨.locked, .locked, 5, n, 0, none, ⟨true, false, alarm, false⟩, ⟨false, false⟩⟩

/-- Car A's link changed. -/
def linking (f : CarLink → CarLink) (s : State) : State := { s with link := { s.link with a := f s.link.a } }

/-- R142: an in-delta under an OPEN and a SHUT window. -/
theorem test_meets_an_in_delta :
    ∀ st ∈ [WindowState.opened, .shut],
      let s := linking (fun l => { l with baselines := some (0, 0) }) (boarding st 5 []);
      s.notices = [] ∧ s.trip.state.isParked = true ∧ (s.link.get .a).live = true ∧ (s.door.get .a).state = .opened ∧
        (s.door.get .a).authority.isSome = true ∧ (s.door.get .a).left = .standingOpen ∧ (s.door.get .a).right = .locked ∧
        (s.door.get .a).allLocked = false ∧ s.wrongSideOpen .a = false ∧ (s.window .a).state = st ∧
        (s.link.get .a).baselines = some (0, 0) := by
  decide +kernel

/-- R79, R118: an ALARM in a run and in a lift, and the tag of the command in the slot, taken and not. -/
theorem test_meets_an_alarm_and_a_taken_tag :
    (∀ s ∈ [hauling, onTrip .creeping, onTrip .lifting, parked],
      s.Secured ∧ (s.link.get .a).live = true ∧ (s.link.get .a).attendant.alarm = false) ∧
      (hauling.trip.record.isSome = true ∧ (alarming true 0).attendant.alarm = true ∧ (alarming false 0).tag.val = 5) ∧
      (∀ t ∈ [5, 6], let s := linking (fun l => { l with slot := some .openDoors, tag := t }) parked;
        s.notices = [] ∧ s.trip.state.isParked = true ∧ (s.link.get .a).live = true ∧ (s.link.get .a).tag = t ∧
          (s.door.get .a).state ≠ .closing ∧ (s.door.get .a).state ≠ .held ∧ (s.door.get .a).cycle = none) := by
  decide +kernel

/-- A REFERENCE trip in a trip state, after a travel, with its reference travel, a mark found or not, and v_ref. -/
def referencing (st : TripState) (travel : Int) (refTravel : Nat) (found : Bool) (vRef : Nat) : State := { hauling with
  trip := { hauling.trip with
    state := st, vRef := vRef
    record := some { record57 with kind := .reference, refTravel := refTravel, markFound := found, origin := none, destination := none } }
  pos := { hauling.pos with view := { hauling.pos.view with travelP := travel, settled := false } }
  env := { hauling.env with result := { EnvResult.reset with vPerm := 10000, restrictions := [] } } }

/-- R86, R65: reference travel at R_ref and above, a mark found before RUNNING, and PARKED at a view of another stop. -/
theorem test_meets_a_reference_trip_and_a_view_in_PARKED :
    (line.line.refTravelLimit = 200000 ∧
      (referencing .running (-20) 199980 false 100).tripView.trip.state = .running ∧
      .cause .referenceNotFound ∉ (referencing .running (-20) 199980 false 100).tripView.notices ∧
      (referencing .running (-21) 199980 false 100).tripView.trip.state = .running ∧
      .cause .referenceNotFound ∈ (referencing .running (-21) 199980 false 100).tripView.notices ∧
      .cause .referenceNotFound ∉ (referencing .running (-21) 199980 true 100).tripView.notices) ∧
      ((referencing .running 0 0 true 0).tripView.trip.state = .settling ∧
        (referencing .running 0 0 true 100).tripView.trip.record.bind (·.controlled) = some .markFound) ∧
      (∀ st ∈ [TripState.settling, .intervened], (referencing st 5 7 false 0).trip.state = st ∧
        (referencing st 5 7 false 0).pos.view.settled = false ∧ (referencing st 5 7 false 0).cfg.active = some line) ∧
      (parked.trip.state = .parked 0 ∧ parked.pos.view.pos = .confirmed ∧ parked.pos.view.atStop = some 0) ∧
      (let u : State := { parked with pos := { parked.pos with view := { parked.pos.view with atStop := some 1 } } };
        u.pos.view.atStop ≠ some 0 ∧ u.tripView.trip.state = .stranded) := by
  decide +kernel

/-- Car A at its platform 0, or at platform 2 with auto_window, with its doors about to be OPEN. -/
def opening (stop : Nat) (commit : CommitState) : State := { atDoor .released (some .left) .locked .locked with
  trip := { parked.trip with state := .parked stop }
  pos := { parked.pos with view := { parked.pos.view with atStop := some stop } }
  cfg := { parked.cfg with commit := commit } }

/-- R134: a door that opens with auto_window at rest and WRITING, and without it; and a deferred open. -/
theorem test_meets_an_automatic_window :
    (∀ k ∈ [CommitState.idle, .writing], ∀ p ∈ [0, 2],
      let s := opening p k;
      s.notices = [] ∧ s.trip.state.isParked = true ∧ (s.link.get .a).live = true ∧ (s.door.get .a).state = .released ∧
        (s.door.get .a).authority = some .left ∧ (s.window .a).state = .shut ∧ s.carPlatform .a = some p ∧
        (s.cfg.active.bind fun d => d.platform? p).map (·.autoWindow) = some (decide (p = 2)) ∧
        after none (.carStatus .a (sides .moving .locked)) s (fun t => some ((t.window .a).state, (t.window .a).deferred)) =
          some (if p = 2 ∧ k = .idle then .opened else .shut, decide (p = 2 ∧ k = .writing))) ∧
      (let s : State := { opening 2 .writing with
          door := (atDoor .opened (some .left) .standingOpen .locked).door
          board := ⟨⟨{ Window.reset with deferred := true }, Window.reset⟩, [1, 2, 300, 4, 5, 6], []⟩
          pos := { parked.pos with view := { parked.pos.view with atStop := some 2, xP := 3600000 } } };
        (s.window .a).deferred = true ∧ (s.door.get .a).state = .opened ∧ (s.window .a).state = .shut ∧
          s.cfg.commit = .writing ∧ s.notices = [] ∧ (s.window .b).deferred = false ∧
          after none .imageWriteEnd s (fun t => some ((t.window .a).state, (t.window .a).pending)) = some (.opened, 250)) := by
  decide +kernel

/-- R70: the stops ahead at W_stop and beyond it, and at the ends of the line; a PREPARING departure in its steps. -/
theorem test_meets_the_stop_ahead_and_step_two :
    ([(-151, some 0), (-150, some 1), (1199849, some 1), (1199850, some 2), (3599850, none)].map
        fun x => decide (stopAhead line .up x.1 = x.2)) = List.replicate 5 true ∧
      ([(150, none), (151, some 0), (1200150, some 0), (1200151, some 1), (3600151, some 2)].map
        fun x => decide (stopAhead line .down x.1 = x.2)) = List.replicate 5 true ∧
      (stopBehind line .down 1 = some 2 ∧ stopBehind line .down 2 = none) ∧
      (∀ st ∈ [DoorState.released, .opened, .unsecured, .held, .closing, .locked, .unknown],
        let s : State := { onTrip .preparing with door := (atDoor st none .moving .locked).door };
        s.trip.state = .preparing ∧ (s.door.get .a).state = st ∧ (s.window .a).state = .shut ∧ s.cfg.active = some line) ∧
      (∀ p ∈ [CyclePhase.close, .reopen], let s : State := { cycling p 0 none with
          trip := { (onTrip .preparing).trip with step := 2 } };
        s.notices = [] ∧ s.wrongSideOpen .a = false ∧ (s.door.get .a).state = .closing ∧
          (s.door.get .a).tClose.isSome = true ∧ (s.door.get .a).cycle = some p ∧ s.trip.state = .preparing) := by
  decide +kernel

/-- R164, R167, 9.3: a pass in use by a decision and by a grant; the ring one short of full, and full; a full pass table. -/
theorem test_meets_a_pass_in_use_and_a_full_ring :
    (let s : State := { deciding 0 with bus := { (deciding 0).bus with gates := parked.bus.gates.modify 1 fun g =>
        { g with decision := some ⟨⟨.pass, 77, 2, 9⟩, some 0, .standard, some 0, 0⟩ } } };
      s.passInUse 77 = true ∧ s.passInUse 78 = false) ∧
      (boarding .opened 0 [grantOf .pass]).passInUse 77 = true ∧ (deciding 0).passInUse 77 = false ∧
      (([1, 2] : List Nat).length < 3 ∧ 3 ≤ ([1, 2, 3] : List Nat).length ∧ 9 ∉ ([1, 2, 3] : List Nat)) ∧
      (let s := holding (List.range 768);
        s.store.pass? 768 = none ∧ passCapacity s.store.plan ≤ s.store.passes.length ∧ s.passInUse 768 = false) := by
  decide +kernel

/-- R48: the leading position decides the zone on a trip, and xP else; the snapshot's a_eff, and the lower live one else. -/
theorem test_meets_the_current_zone :
    line.zones ≠ [] ∧
      (let s : State := { hauling with pos := { hauling.pos with view := { hauling.pos.view with
          pos := .disputed, xP := 499999, xQ := 500000 } } };
        s.pos.view.leading .up = some 500000 ∧ s.currentZone line = 1 ∧
          ({ s with trip := parked.trip } : State).currentZone line = 0) ∧
      estimator.snapshot.map (·.aEff[1]?) = some (some 612) ∧
      (parked.load.snapshot = none ∧ parked.load.live.map (fun l => (l.up.aEff[1]?, l.down.aEff[1]?)) = some (some 900, some 900)) := by
  decide +kernel

/-- R90: one brake in each command and contact. -/
theorem test_meets_a_brake_line :
    (∀ c ∈ [Contact.applied, .lifted], ∀ f ∈ [Contact.applied, .lifted],
      let b : BrakeLine := ⟨c, f, some 7, true, false⟩;
      (b.apply.applyTimer.isSome = true ↔ c = .applied ∨ f = .lifted) ∧ (b.lift.applyTimer = none ↔ c = .applied) ∧
        b.lift.command = .lifted) ∧
      (⟨.applied, .applied, none, false, false⟩ : BrakeLine).read .lifted = ⟨.applied, .lifted, some 500, false, false⟩ ∧
      (⟨.applied, .lifted, none, true, false⟩ : BrakeLine).read .applied = ⟨.applied, .applied, none, false, false⟩ := by
  decide +kernel

/-- R14: a mark between an activation and the next sample is judged by the windows of before. -/
theorem test_meets_windows_of_before :
    ∀ w ∈ [(249, 250), (250, 250)],
      let s : State := { channelsAt .confirmed 3250 3000 with pos := { (channelsAt .confirmed 3250 3000).pos with oldWindows := some w } };
      s.cfg.active = some line ∧ line.mark? 1 = some 3000 ∧ s.refTrip = false ∧ s.notices = [] ∧
        s.pos.oldWindows.getD (line.line.corrWindow, line.line.idWindow) = w ∧
        after none (.markEvent 1) s (fun t => some (t.pos.corrected, t.pos.mismatch)) = some (if w.1 = 250 then (1, 0) else (0, 1)) := by
  decide +kernel

/-- R14: an activation keeps the windows in force before it, over a second one too, and none at a first; a sample ends it. -/
theorem test_windows_of_an_activation :
    after none .imageWriteEnd (writing .locked none 0) (fun t => t.pos.oldWindows) = some (250, 1500) ∧
      after none .imageWriteEnd { writing .locked none 0 with pos := { parked.pos with oldWindows := some (9, 99) } }
        (fun t => t.pos.oldWindows) = some (9, 99) ∧
      after (some (9, 99)) .imageWriteEnd { writing .locked none 0 with cfg := { parked.cfg with commit := .writing, active := none } }
        (fun t => t.pos.oldWindows) = none ∧
      (({ parked.pos with oldWindows := some (9, 99) } : Monitor).sample line true none).monitor.oldWindows = none := by
  decide +kernel

/-- R176, R177: a transmitter that sends and one that is free; 31 and 32 reports waiting. -/
theorem test_meets_a_report_and_a_reply :
    (∀ n ∈ [31, 32], let s := porting Assembler.idle [] (List.replicate n someReport) false;
      s.port.sending.isSome = true ∧ s.port.reports.length = n ∧ (s.report someReport).port.reports.length = 32) ∧
      (parked.port.sending = none ∧ (parked.report someReport).port.sending = some (.report someReport) ∧
        (parked.reply someReply).port.sending = some (.reply someReply)) := by
  decide +kernel

/-- R181: a second poll that waits replaces the first one; the verdict beside it stays. -/
theorem test_meets_the_newest_record :
    let s : State := { parked with wires := { parked.wires with
      gateBus := ⟨Assembler.idle, some (.poll 2 false), [.poll 2 true, .verdict 2 none 0]⟩ } }
    ((s.wires.get .gateBus).sending.isSome = true ∧ ((s.wires.get .gateBus).waiting.map (·.kindCode)).Nodup) ∧
      ((s.sendRecord .gateBus (.poll 5 true)).wires.get .gateBus).waiting = [.verdict 2 none 0, .poll 5 true] ∧
      (parked.wires.get .gateBus).sending = none := by
  decide +kernel

/-- R178: one and two pages of entries, grants and deny records. -/
theorem test_meets_pages :
    let s : Nat → Nat → Nat → State := fun r g n => { parked with
      env := { parked.env with result := { EnvResult.reset with restrictions := (List.replicate r (approach 0)).flatten } }
      board := { parked.board with grants := List.replicate g (grantOf .token) }
      store := { parked.store with deny := List.replicate n ⟨0, 0, .pass⟩ } }
    ([s 9 6 0, s 10 7 32, s 0 0 33].map fun s => [s.sectionPages 3, s.sectionPages 8, s.sectionPages 11]) =
      [[1, 1, 1], [2, 2, 1], [1, 1, 2]] := by
  decide +kernel

/-- R35, R62, R88, R109: the presence flags of a section, present and absent, with the widths of its items. -/
theorem test_section_items :
    (parked.sectionItems 1 0).drop 9 = [.u8 1, .u8 0, .u8 0, .u8 0, .u8 0, .u8 0, .u8 0] ∧
      (let s : State := { hauling with env := { hauling.env with result := { EnvResult.reset with cap := some 6000 } } };
        ((s.sectionItems 3 0).drop 8).take 4 = [.u8 1, .i32 6000, .u8 0, .i32 0]) ∧
      ((hauling.sectionItems 4 0).drop 2).take 10 =
        [.u8 0, .u8 1, .u8 0, .u8 1, .u8 0, .u8 1, .u8 1, .u8 0, .u8 1, .u16 57] := by
  decide +kernel

/-! ### Clauses on the port, the layouts and the definitions -/

/-- The port after a command. -/
def portAfter (c : Instr) (s : State) : Option Port := after none c s fun t => some t.port

/-- 11.1: a payload one byte short and one too long, a CONFIG WRITE with no field and with sixteen, and LOADING. -/
theorem test_meets_payload_lengths :
    (State.reset.port.restarting = false ∧ State.reset.port.replies.length < Config.replyQueueSize ∧
      State.reset.cfg.commit = .loading) ∧
      ([10, 11, 12].map fun n => sentAfter (.passLoad 7 (List.replicate n 0)) State.reset) =
        [some (.reply ⟨0xB0#8, 7, .plain .length⟩), some (.reply ⟨0xB0#8, 7, .plain .busy⟩),
          some (.reply ⟨0xB0#8, 7, .plain .length⟩)] ∧
      ([[1, 0, 0], [1, 0, 0, 0], [1, 0, 0, 16] ++ List.replicate 80 0, [1, 0, 0, 17] ++ List.replicate 85 0].map fun p =>
        sentAfter (.configWrite 7 p) State.reset) =
        [some (.reply ⟨0x81#8, 7, .plain .length⟩), some (.reply ⟨0x81#8, 7, .plain .busy⟩),
          some (.reply ⟨0x81#8, 7, .plain .busy⟩), some (.reply ⟨0x81#8, 7, .plain .length⟩)] := by
  decide +kernel

/-- 10.1, 11.1: the bytes of a DISPATCHED report of departure 57 at -1 mm, written out, before their CRC, and of an OK reply. -/
theorem test_bytes_of_a_report_and_a_reply :
    (OutFrame.report (.trip 57 (some .recovery) .stranded .preparing none .dispatched (-1))).bytes.take 17 =
        [0xA5, 16, 0x40, 0, 0, 0, 57, 1, 1, 1, 3, 0, 0, 0, 0xFF, 0xFF, 0xFF] ∧
      (OutFrame.reply ⟨0x90#8, 7, .done true⟩).bytes.take 6 = [0xA5, 4, 0x90, 7, 0, 1] ∧
      (OutFrame.report (.door .b (.held .timeout) .held none .obstructed .locked 4 ⟨true, false, false, false⟩ ⟨false, true⟩
        258)).bytes.take 15 = [0xA5, 14, 0x43, 0, 6, 1, 1, 6, 0, 4, 0, 4, 1, 2, 1] := by
  decide +kernel

/-- The functions that the layouts of a report and a reply name exist; a report is its type and its fields. -/
theorem test_meets_the_layouts :
    (∃ bit : Bool → Nat, (∀ b, bit b = if b = true then 1 else 0) ∧ ∃ fl : Bool → Item, (∀ b, fl b = Item.u8 (bit b)) ∧
      ∃ o8 : Option Nat → List Item, ∀ x, o8 x = [fl x.isSome, Item.u8 (x.getD 0)]) ∧
      (∃ t l, Report.items someReport = (t, l)) ∧
      (∃ (e : WindowEvent) (code : Nat) (more : List Item), e = .closing .link 3 ∧ code = 1 ∧
        more = [Item.u8 CloseReason.link.ctorIdx, Item.u8 3]) ∧
      (parked.trip.record = none ∧ hauling.trip.record.isSome = true) :=
  ⟨⟨_, fun _ => rfl, _, fun _ => rfl, _, fun _ => rfl⟩, ⟨_, _, rfl⟩, ⟨_, _, _, rfl, rfl, rfl⟩, by decide +kernel⟩

/-- An image of an empty draft, with the CRC of its bytes. -/
def emptyImage : Image :=
  let i : Image := ⟨true, 1, (contentsBytes []).length, 3, [], 0⟩
  { i with crc := crc32 (imageBytes i) }

/-- R16: the load results; that an image of the line loads is `written_image_loads`. -/
theorem test_meets_the_load_results :
    ((loadImage { emptyImage with marker := false }).1 = .imageAbsent ∧
      (loadImage { emptyImage with format := 2 }).1 = .imageAbsent ∧
      (loadImage { emptyImage with length := emptyImage.length + 1 }).1 = .imageCrc) ∧
      (∀ x, x ≠ emptyImage.crc → (loadImage { emptyImage with crc := x }).1 = .imageCrc) ∧
      loadImage emptyImage = (.imageContent, some (1, 0, 1)) := by
  have h : validate [] = some (1, 0, 1) := by decide +kernel
  refine ⟨⟨rfl, rfl, by simp [loadImage, emptyImage]⟩, fun x hx => ?_, by simp [loadImage, emptyImage, imageBytes, h]⟩
  simp only [loadImage, show emptyImage.marker = true from rfl, show emptyImage.format = 1 from rfl]
  rw [if_neg (by decide), if_pos]
  exact Bool.or_eq_true _ _ ▸ .inr (decide_eq_true hx)

/-- R3: a CONFIG WRITE with every value at an end of its range, and its reply. -/
theorem test_meets_a_config_write_that_is_taken :
    writePayload [6, 5, 0, 2, 1, 0, 0, 0, 3, 3, 0, 0x3D, 0x09, 0x00] = some ⟨6, 5, 0, [(1, 3), (3, 4000000)]⟩ ∧
      Kind.ofCode 6 = some .platform ∧ Kind.platform.hasIndex 5 = true ∧ (([1, 3] : List Nat)).Nodup ∧
      (∀ f ∈ ([(1, 3), (3, 4000000)] : List (Nat × Nat)), ∃ sp ∈ Kind.platform.specs, sp.number = f.1 ∧
        ((sp.low ≤ f.2 ∧ f.2 ≤ sp.high) ∨ sp.extra = some f.2)) ∧
      sentAfter (.configWrite 7 [6, 5, 0, 2, 1, 0, 0, 0, 3, 3, 0, 0x3D, 0x09, 0x00]) parked =
        some (.reply ⟨0x81#8, 7, .plain .ok⟩) ∧
      (∃ sp ∈ Kind.stop.specs, sp.number = 2 ∧ sp.extra = some 255) := by
  decide +kernel

/-- R35, R88, R171: the reports of a quiet activation with a new scale and a new plan, behind a transmitter that sends, and the
held reply. -/
theorem test_meets_a_quiet_activation :
    let s : State := { porting Assembler.idle [] [] false with
      cfg := { parked.cfg with
        commit := .writing, held := some 9, draft := { line with plan := 1, marks := [(1, 3000)] }.toDraft } }
    (s.notices = [] ∧ (∀ c ∈ [Car.a, .b], (s.door.get c).authority = none ∧ (s.door.get c).state ≠ .unsecured ∧
      s.wrongSideOpen c = false ∧ (s.window c).deferred = false)) ∧
      (portAfter .imageWriteEnd s).map (fun p => (p.reports, p.replies)) =
        some ([.position true false false false none .unreferenced 0 0,
          .trip 0 none (.parked 0) .stranded none .config 0, .gate (.storeClearing 1)], [⟨0x83#8, 9, .plain .ok⟩]) := by
  decide +kernel

/-- R67, R88, R69: the reply and the reports of a DISPATCH that enters LIFTING, that waits, and that is abandoned. -/
theorem test_reports_of_a_dispatch :
    ([parked, withHold parked, withoutDrive parked].map fun s =>
      (portAfter (.dispatch 7 [2, 1]) { s with port := (porting Assembler.idle [] [] false).port }).map
        fun p => (p.replies, p.reports)) =
      let ok : List Reply := [⟨0x90#8, 7, .plain .ok⟩]
      let r : Report := .trip 1 (some .normal) (.parked 0) .preparing none .dispatched 0
      [some (ok, [r, .trip 1 (some .normal) .preparing .lifting none .lifting 0]), some (ok, [r]),
        some (ok, [r, .trip 0 none .preparing (.parked 0) (some 0) .drive 0])] := by
  decide +kernel

/-- R92: a lift request with the latch set, EB APPLIED, a door that is not LOCKED, a link that is not LIVE, DE OFF, SB stuck. -/
theorem test_meets_a_dropped_lift :
    let s : State := { onTrip .lifting with
      brake := { normalBrakes with de := true }, trip := { (onTrip .lifting).trip with liftPhase := .drive } }
    s.requestsOpen = true ∧
      (∀ b ∈ [{ normalBrakes with state := .service }, { normalBrakes with eb := ⟨.applied, .lifted, none, false, false⟩ },
          { normalBrakes with eb := ⟨.lifted, .applied, none, false, false⟩ }],
        ({ s with brake := b } : State).requestsOpen = false) ∧
      ({ s with door := ⟨DoorCtl.reset, s.door.b⟩ } : State).requestsOpen = false ∧
      ({ s with link := ⟨s.link.a, CarLink.reset⟩ } : State).requestsOpen = false ∧
      (∀ b ∈ [normalBrakes, { normalBrakes with de := true, sb := ⟨.applied, .applied, none, true, false⟩ }],
        ({ s with brake := b } : State).Secured ∧ ({ s with brake := b } : State).liftRequest = { s with brake := b } ∧
          after none (.driveStatus ⟨.running, 0, 0⟩) { s with brake := b } (fun t => some (t.brake, t.trip.liftPhase)) =
            some (b, .brake)) := by
  decide +kernel

/-- R108: the reports of a BRAKE RESET with the EB contact reading APPLIED and LIFTED. -/
theorem test_reports_of_a_brake_reset :
    ([emergency, { serviced with trip := { serviced.trip with departures := 57 } }].map fun s =>
      (portAfter (.brakeReset 7 []) { s with port := (porting Assembler.idle [] [] false).port }).map
        fun p => (p.replies, p.reports)) =
      let r : InterventionEvent → Nat → Report := fun e n => .intervention e none .normal n 0 0 0 0
      [some ([⟨0x98#8, 7, .done false⟩], [r .reset 0]),
        some ([⟨0x98#8, 7, .done false⟩], [r .reset 57, r .ebLifted 57])] := by
  decide +kernel

/-- R102, R108: a cause that changes nothing at a free and at a full capture list, and an entry and an escalation. -/
theorem test_meets_a_fault_and_an_intervention :
    let p : State → Port := fun s => s.port
    (Cause.markMismatch.severity = .recordOnly ∧
      (p ((captured []).takeCause .markMismatch)).sending =
        some (.report (.fault .markMismatch .recordOnly 0 0 (some 1) .normal)) ∧
      (p ((captured [.startUp, .rollback, .liftFail, .sbStuck]).takeCause .markMismatch)).sending =
        some (.report (.fault .markMismatch .recordOnly 0 0 none .normal))) ∧
      (∀ s ∈ [parked, hauling, onTrip .preparing, onTrip .settling], s.LatchLaw ∧ s.door.a.authority = none ∧
        s.door.b.authority = none ∧ s.brake.latch = false) ∧
      (serviced.brake.latch = true ∧ emergency.brake.state = .emergency) ∧
      (let t := ({ hauling with port := (porting Assembler.idle [] [] false).port } : State).takeCause .rollback;
        t.port.reports = [.trip 57 (some .normal) .running .intervened none .intervention 0,
          .intervention .emergency (some .rollback) .emergency 57 0 0 0 1]) ∧
      (p (serviced.takeCause .sbStuck)).sending =
        some (.report (.intervention .escalated (some .sbStuck) .emergency 0 0 0 0 1)) := by
  unfold State.LatchLaw
  decide +kernel

/-- R35: samples that change the position state, that miss a mark, and that do neither; STRANDED at rest. -/
theorem test_meets_a_position_report :
    let rest : State := { parked with trip := { parked.trip with state := .stranded } }
    let out : State → SampleOut := fun s => s.pos.sample line (s.brake.sb.command == .applied) s.runningDir
    let off : State := { rest with pos := { moved .confirmed 0 401 with excess := 2 } }
    let miss : State := { rest with pos := { moved .confirmed 4501 4501 with armed := some (1, .below) } }
    (rest.Secured ∧ rest.brake.de = false ∧ (out rest).causes = [] ∧ (out rest).monitor.view.vm = 0 ∧
      (out rest).changed = false ∧ (out rest).missed = none ∧ (rest.monitorSample line).port = rest.port) ∧
      ((out off).changed = true ∧ (off.monitorSample line).port.sending =
        some (.report (.position true false false false none .disputed 0 401))) ∧
      ((out miss).missed = some 1 ∧ (out miss).changed = false ∧ (miss.monitorSample line).port.sending =
        some (.report (.position false false false true (some 1) .confirmed 4501 4501))) := by
  decide +kernel

/-- R77, R85, R65, R88: the TRIP reports of a view that ends SETTLING or INTERVENED, and of one in PARKED at another stop. -/
theorem test_reports_of_a_view_at_rest :
    (let s : Option StopReason → State := fun why => { hauling with trip := { hauling.trip with
        state := .settling, record := some { record57 with controlled := why } } };
      ([none, some .stopped, some .alarm, some .markFound].map fun why => (s why).tripView.port.sending) =
        ([.arrived, .stopped, .alarm, .markFound].map fun x =>
          some (.report (.trip 0 none .settling (.parked 0) (some 0) x 0)))) ∧
      (let s : State := { hauling with trip := { hauling.trip with state := .intervened } };
        s.Secured ∧ s.tripView.port.sending =
          some (.report (.trip 0 none .intervened (.parked 0) (some 0) .intervenedEnd 0)) ∧
        ({ s with pos := { s.pos with view := { s.pos.view with settled := false } } } : State).tripView.port = s.port) ∧
      (let s : State := { parked with pos := { parked.pos with view := { parked.pos.view with atStop := some 1 } } };
        s.trip.record = none ∧ s.tripView.port.sending =
          some (.report (.trip 0 none (.parked 0) .stranded none .position 0))) := by
  decide +kernel

/-- R76, R86, R88: CREEP at the creep distance and not above it, SETTLE, MARK_FOUND, and a trip that creeps and settles at one
view. -/
theorem test_reports_of_a_view_in_a_run :
    let sent : State → List Report := fun s =>
      ({ s with port := (porting Assembler.idle [] [] false).port } : State).tripView.port.reports
    let r : TripState → TripState → TripReason → Report := fun a b why => .trip 57 (some .normal) a b none why 0
    (sent (approaching .running 3000 none 1140 none) = [r .running .creeping .creep] ∧
      sent (approaching .running 3001 none 1140 none) = [] ∧
      sent (approaching .running 75 none 300 none) = [r .running .settling .settle] ∧
      sent (approaching .creeping 75 none 300 none) = [r .creeping .settling .settle] ∧
      sent (approaching .running 3000 (some .stopped) 1 none) =
        [r .running .creeping .creep, r .creeping .settling .settle]) ∧
      sent (referencing .running 0 0 true 100) = [.trip 57 (some .reference) .running .running none .markFound 0] := by
  decide +kernel

/-- R23: a MISMATCH corrects the channel whose own outcome is CORRECT, history and hold with it; its reports and capture. -/
theorem test_meets_a_mark_mismatch :
    let s : State := { channelsAt .confirmed 3250 3251 with
      port := (porting Assembler.idle [] [] false).port
      pos := { (channelsAt .confirmed 3250 3251).pos with hold := some (3250, 3251) } }
    (s.cfg.active = some line ∧ line.mark? 1 = some 3000 ∧ s.refTrip = false ∧ s.notices = [] ∧ s.pos.oldWindows = none) ∧
      (after none (.markEvent 1) s (fun t => some (t.pos.p.offset, t.pos.q.offset)) = some (3000, 3251) ∧
        after none (.markEvent 1) s (fun t => some (t.pos.p.history.head?, t.pos.q.history.head?)) =
          some (some (-250), some 0) ∧
        after none (.markEvent 1) s (fun t => t.pos.hold) = some (3000, 3251) ∧
        after none (.markEvent 1) s (fun t => some (t.brake.captures.map (·.cause))) = some [.markMismatch]) ∧
      (portAfter (.markEvent 1) s).map (·.reports) =
        some [.position true true false false (some 1) .disputed 3000 3251,
          .fault .markMismatch .recordOnly 0 0 (some 1) .normal] ∧
      (portAfter (.markEvent 9) s).map (·.reports) =
        some [.position true false true false (some 9) .disputed 3250 3251,
          .fault .unexpectedMark .recordOnly 0 0 (some 1) .normal] := by
  decide +kernel

/-- R110, R131: the first record of a link, with its flags; R79: an ALARM in a run behind the reports of the flags. -/
theorem test_meets_a_link_that_becomes_live :
    let s : State := { parked with
      trip := { parked.trip with state := .stranded }, port := (porting Assembler.idle [] [] false).port
      link := ⟨CarLink.reset, parked.link.b⟩, door := ⟨DoorCtl.reset, parked.door.b⟩ }
    let r : CarStatus := { sides .locked .locked with attendant := ⟨true, false, false, false⟩, faults := ⟨true, false⟩ }
    (s.notices = [] ∧ (s.link.get .a).live = false ∧ (s.door.get .a).state = .unknown ∧
      ∀ x ∈ [Car.a, .b], (s.door.get x).authority = none ∧ (s.door.get x).arrival = false) ∧
      (portAfter (.carStatus .a r) s).map (·.reports) =
        some [.door .a .linkLive .locked none .locked .locked 0 ⟨false, false, false, false⟩ ⟨false, false⟩ 0,
          .door .a .carFault .locked none .locked .locked 0 r.attendant r.faults 0,
          .door .a (.attendant ⟨false, false, false, false⟩) .locked none .locked .locked 0 r.attendant r.faults 0] ∧
      (portAfter (.carStatus .a (alarming true 0)) { hauling with port := (porting Assembler.idle [] [] false).port }).map
        (·.reports) = some [.door .a (.attendant ⟨false, false, false, false⟩) .locked none .locked .locked 0
          (alarming true 0).attendant ⟨false, false⟩ 57, .trip 57 (some .normal) .running .running none .alarm 0] := by
  decide +kernel

/-- R113, R131: the reports of a link that is lost with and without authority. -/
theorem test_meets_the_reports_of_a_lost_link :
    let lost : Report := .door .a .linkLost .unknown none .standingOpen .locked 0 ⟨false, false, false, false⟩ ⟨false, false⟩ 0
    let s : State := { boarding .opened 1 [] with port := (porting Assembler.idle [] [] false).port }
    let shut : Boarding := ⟨⟨Window.reset, Window.reset⟩, [], []⟩
    (s.trip.state.isParked = true ∧ (s.door.get .a).authority.isSome = true ∧ (s.door.get .b).arrival = false ∧
      (s.door.get .b).authority = none ∧ (s.door.get .a).state = .opened) ∧
      (portAfter (.livenessTimerExpiry .a) { s with board := shut }).map (·.reports) =
        some [.door .a (.withdrawn .link) .unknown none .standingOpen .locked 0 ⟨false, false, false, false⟩ ⟨false, false⟩ 0,
          lost] ∧
      (portAfter (.livenessTimerExpiry .a) { s with
        door := (atDoor .unsecured none .standingOpen .locked).door, board := shut }).map (·.reports) = some [lost] := by
  decide +kernel

/-- R121, R122, R123, R131: the reports of a withdrawal and of a grant, of a DOOR RELEASE of an UNSECURED car under auto_window,
and of a DOOR OPEN in HELD. -/
theorem test_reports_of_authority :
    let q : Port := (porting Assembler.idle [] [] false).port
    let d : Car → DoorEvent → DoorState → Option Side → DoorReport → Report := fun c e st au l =>
      .door c e st au l .locked 0 ⟨false, false, false, false⟩ ⟨false, false⟩ 0
    (let u : State := { atDoor .released (some .left) .locked .locked with port := q, trip := { parked.trip with state := .parked 1 } };
      (u.authorityTest .a).port.reports = [d .a (.withdrawn .condition) .locked none .locked]) ∧
      (let u : State := { arrived .locked .locked .locked .applied none with port := q };
        (u.grantTest .a).port.reports = [d .a .granted .released (some .left) .locked]) ∧
      (let u : State := { opening 2 .idle with port := q, door := (atDoor .unsecured none .standingOpen .locked).door };
        (portAfter (.doorRelease 7 [0]) u).map (fun p => (p.replies, p.reports)) =
          some ([⟨0xA0#8, 7, .done false⟩], [.window (.opened 0 0) .a 2 1 .opened 0,
            d .a .granted .opened (some .left) .standingOpen])) ∧
      (let u : State := { opening 2 .idle with port := q, door := (atDoor .held (some .left) .standingOpen .locked).door };
        (portAfter (.doorOpen 7 [0]) u).map (fun p => (p.replies, p.reports)) =
          some ([⟨0xA1#8, 7, .plain .ok⟩], [.window (.opened 0 0) .a 2 1 .opened 0])) := by
  decide +kernel

/-- R125, R127, R128, R131: the reports of a DOOR CLOSE of a RELEASED car, of a cycle that completes, of an obstruction above
N_retry, and of T_close. -/
theorem test_reports_of_a_close_cycle :
    let q : Port := (porting Assembler.idle [] [] false).port
    let d : DoorEvent → DoorState → Option Side → DoorReport → Nat → Report := fun e st au l n =>
      .door .a e st au l .locked n ⟨false, false, false, false⟩ ⟨false, false⟩ 0
    ((portAfter (.doorClose 7 [0]) { atDoor .released (some .left) .locked .locked with port := q }).map
      fun p => (p.replies, p.reports)) = some ([⟨0xA2#8, 7, .done false⟩], [d (.withdrawn .closed) .locked none .locked 0]) ∧
      (portAfter (.carStatus .a (sides .locked .locked)) { cycling .close 2 none with port := q }).map (·.reports) =
        some [d (.withdrawn .closed) .locked none .locked 0] ∧
      ([(2, 3), (3, 4)].map fun x => (portAfter (.carStatus .a (sides .obstructed .locked))
        { cycling .close x.1 none with port := q }).map (·.reports)) =
        [some [], some [d (.held .obstruction) .held (some .left) .obstructed 4]] ∧
      (portAfter (.tCloseExpiry .a) { closingDoor with port := q }).map (·.reports) =
        some [d (.held .timeout) .held (some .left) .moving 0] := by
  decide +kernel

/-- R151: the reports OPENED with a carry-over above the capacity, CLOSING and SHUT, and CARRY_CLEARED. -/
theorem test_reports_of_a_window :
    let q : Port := (porting Assembler.idle [] [] false).port
    let sent : Instr → State → Option (List Report) := fun c s => (portAfter c { s with port := q }).map (·.reports)
    sent (.windowOpen 7 [0]) { boarding .shut 0 [] with board := ⟨⟨Window.reset, Window.reset⟩, [300, 0, 0, 0, 0, 0], []⟩ } =
        some [.window (.opened 250 50) .a 0 0 .opened 0] ∧
      sent (.windowClose 7 [0]) (boarding .opened 1 [grantOf .token]) = some [.window (.closing .host 1) .a 0 0 .closing 0] ∧
      sent (.windowClose 7 [0]) (boarding .opened 1 []) = some [.window (.shut .host 0 0 0 0 0 1) .a 0 0 .shut 0] ∧
      sent (.carryClear 7 [3]) (boarding .opened 1 []) = some [.window (.carryCleared 3) .b 3 0 .shut 0] := by
  decide +kernel

/-- R146, R148, R171: the reports of a PASSED and a FAULT answer of an OFFLINE gate whose grant is the last of a CLOSING window,
and of the fifth miss and of OFF. -/
theorem test_reports_of_a_grant_that_ends :
    let q : Port := (porting Assembler.idle [] [] false).port
    let s : State := { boarding .closing 1 [grantOf .token] with port := q }
    let on : Report := .gate (.online 2 (some 0) (some 0) .online 0)
    let shut : Nat → Nat → Nat → Report := fun k u n => .window (.shut .host 1 k 0 u 0 n) .a 0 0 .shut 0
    ((s.gate 2).state = .offline ∧ s.ShutsAlone .a ∧ s.grantAt 2 = some (grantOf .token)) ∧
      (portAfter (.passed 2) s).map (·.reports) = some [on, shut 1 0 2] ∧
      (portAfter (.gateFault 2 200) s).map (·.reports) = some [on, .gate (.fault 2 200 true), shut 0 1 2] ∧
      (portAfter .pollTimeout (missing s)).map (·.reports) =
        some [shut 0 1 2, .gate (.offline 2 (some 0) (some 0) .offline 1)] ∧
      (portAfter (.gateEnable 7 [2, 0]) s).map (fun p => (p.replies, p.reports)) =
        some ([⟨0xAC#8, 7, .done false⟩], [shut 0 1 2, .gate (.disabled 2 .disabled)]) ∧
      (portAfter (.gateEnable 7 [7, 1]) { parked with port := q }).map (·.reports) = some [.gate (.enabled 7 .offline)] := by
  decide +kernel

/-- R17: while UNCONFIGURED address 12 is followed by address 1, a PRESENT is refused OUT_OF_SERVICE, a poll may go without an
answer, and no gate entry changes; while LOADING no poll goes out. -/
theorem test_meets_the_gate_bus_without_a_configuration :
    let s : State := { unset with bus := { unset.bus with position := 12, outstanding := some (12, false) } }
    let u : State := { s with cfg := { s.cfg with commit := .loading } }
    let f : State → Option (GateBus × List LinkRecord × Option LinkRecord) := fun t =>
      some (t.bus, t.wires.gateBus.waiting, t.wires.gateBus.sending)
    let next : GateBus := { s.bus with position := 1, outstanding := some (1, false) }
    (s.cfg.active = none ∧ s.notices = [] ∧ (∀ e ∈ s.bus.gates, e.decision = none) ∧ s.cfg.commit ≠ .loading) ∧
      (∀ c ∈ [Instr.nothing 12, .passed 12, .abandoned 12, .gateFault 12 3, .pollTimeout],
        after none c s f = some (next, [], some (.poll 1 false))) ∧
      after none (.present 12 ⟨.token, 77#32, 2, 9#16⟩) s f =
        some (next, [.poll 1 false], some (.verdict 12 (some .outOfService) 0)) ∧
      after none (.nothing 12) u f = some ({ u.bus with outstanding := none }, [], none) ∧
      after none (.nothing 3) { s with bus := { s.bus with position := 3, outstanding := some (3, false) } } f =
        some ({ s.bus with position := 4, outstanding := some (4, false) }, [], some (.poll 4 false)) := by
  decide +kernel

/-- R168, R169, R163, R143: what a deny entry covers at the edges of its mask, the class in use, and the sum of a car. -/
theorem test_meets_the_definitions_of_a_verdict :
    ([0x0BEE0000, 0x0BEE00FF, 0x0BEE0100, 0x0BEDFFFF].map
        fun i => (⟨0x0BEE0000, 8, .either⟩ : DenyRec).covers .pass i) = [true, true, false, false] ∧
      ((⟨7, 0, .token⟩ : DenyRec).covers .token 7 = true ∧ (⟨7, 0, .token⟩ : DenyRec).covers .pass 7 = false ∧
        (⟨7, 0, .token⟩ : DenyRec).covers .token 8 = false) ∧
      (let s := holding [3, 5];
        s.classInUse ⟨.pass, 5#32, 9, 9#16⟩ = 2 ∧ s.classInUse ⟨.pass, 6#32, 9, 9#16⟩ = 9 ∧
          s.classInUse ⟨.token, 5#32, 9, 9#16⟩ = 9 ∧ s.store.passIndex? 5 = some 1 ∧ s.store.passIndex? 6 = none ∧
          s.store.classes[15]? = some ⟨.priority, false⟩) ∧
      (deciding 217).admittedSum .a = 217 ∧ (boarding .opened 5 [grantOf .token]).admittedSum .a = 6 ∧
      (boarding .opened 0 []).openWindowAt 0 = some .a ∧ (boarding .closing 0 []).openWindowAt 0 = none := by
  decide +kernel

/-- 11.2: the bytes of the four records that the part sends, before their CRC. -/
theorem test_bytes_of_the_records :
    ([LinkRecord.poll 12 true, .verdict 2 (some .full) 0, .verdict 2 none 65535,
        .carCommand ⟨some .right, some .reopen, 7, true, false, true, false, true⟩, .driveReference (-300) true].map
        fun r => r.bytes.dropLast.dropLast) =
      [[0xC3, 3, 0x01, 12, 1], [0xC3, 6, 0x02, 2, 1, 12, 0, 0], [0xC3, 6, 0x02, 2, 0, 0, 0xFF, 0xFF],
        [0xC3, 5, 0x20, 2, 3, 7, 0x15], [0xC3, 4, 0x30, 0xFE, 0xD4, 1]] := by
  decide +kernel

/-! ### Clauses on timers, polls, permission drops and the store -/

/-- An image write in progress with a plan in the draft, over a store in use with plan 2. -/
def replanning (plan : Nat) : State := { holding [3, 5] with
  cfg := { parked.cfg with commit := .writing, draft := { line with plan := plan }.toDraft }
  store := { (holding [3, 5]).store with plan := 2, ring := [77], cursor := 1, cursorDir := .down } }

/-- R14, R15, R161: what the store holds after an activation with a new plan, and with the plan as it was, in spite of an earlier
STORE PLAN: state, plan, passes, ring, cursor, deny list and day. -/
theorem test_meets_the_store_of_an_activation :
    ((replanning 1).cfg.active.map (·.plan) ≠ some (replanning 1).cfg.draft.complete.plan ∧
      (replanning 0).cfg.active.map (·.plan) = some (replanning 0).cfg.draft.complete.plan) ∧
      ([1, 0].map fun n => after none .imageWriteEnd (replanning n) fun t => some (t.store.state, t.store.ring,
        [t.store.plan, t.store.passes.length, t.store.cursor, t.store.deny.length, t.store.day])) =
        [some (.clearing, [], [1, 0, 0, 1, 9]), some (.ready, [77], [2, 2, 1, 1, 9])] := by
  decide +kernel

/-- R46: the payloads of the snapshot, of car A by its count and of car B by its weigh of 7,840 kg over 95 passengers. -/
theorem test_meets_the_payloads_of_a_snapshot :
    let s : State := { parked with
      load := ⟨some (liveFigures line (linksOf 60 95 (some 7840)) ⟨Window.reset, Window.reset⟩), none, ⟨0, 0⟩, none⟩ }
    s.Secured ∧ after none (.dispatch 7 [2, 1]) s (fun t => t.load.snapshot.map fun x => (x.payload, x.fromWeigh, x.u)) =
      some (⟨4800, 7840⟩, ⟨false, true⟩, 3040) := by
  decide +kernel

/-- R46, R49: a weigh of 1 kg above and of 1 kg below the count of 7,600 kg. -/
theorem test_meets_the_source_of_a_payload :
    ([7599, 7601].map fun w =>
      (liveFigures line (linksOf 0 95 (some w)) ⟨Window.reset, Window.reset⟩).cars.b.fromWeigh) = [false, true] := by
  decide +kernel

/-- R99: what a check that fails by 1 mm/s² and one that passes leave, with the timer. -/
theorem test_meets_a_failed_check :
    ([224, 225].map fun v => after none .escalationTimerExpiry { serviced with
        pos := { serviced.pos with view := { serviced.pos.view with standstill := false }, vmHistory := [v] } }
      fun t => some (t.brake.state, t.brake.check, t.brake.requiredDecel, t.brake.escalation)) =
      [some (.emergency, .failed 448, 450, none), some (.service, .passed 450, 450, none)] := by
  decide +kernel

/-- R96, R99, R101: timer and EB lift after a service and an emergency cause, and after further causes in SERVICE and
EMERGENCY. -/
theorem test_meets_the_timers_of_an_intervention :
    let lifting : State := { parked with brake := { normalBrakes with ebLift := some 700 } }
    let running : State := { serviced with brake := { serviced.brake with escalation := some 1, ebLift := some 700 } }
    let f : State → Cause → Option Nat × Option Nat := fun s c =>
      ((s.takeCause c).brake.escalation, (s.takeCause c).brake.ebLift)
    (Cause.driveLost.severity = .service ∧ Cause.rollback.severity = .emergency ∧ lifting.brake.latch = false) ∧
      f lifting .driveLost = (some 1000, some 700) ∧ f lifting .rollback = (none, none) ∧
      f running .driveLost = (some 1, some 700) ∧ f running .liftFail = (some 1, some 700) ∧
      f running .rollback = (none, none) ∧ f emergency .rollback = (emergency.brake.escalation, emergency.brake.ebLift) := by
  decide +kernel

/-- R39: a weigh of the bound of 40,000 kg and one above it, at a count of 0 and at the full count. -/
theorem test_meets_an_implausible_weigh :
    let s : Nat → State := fun n => { parked with load := { parked.load with implausible := ⟨n, 7⟩ } }
    let f : Nat → BitVec 16 → Option (Pair Nat) := fun n w =>
      after none (.carStatus .a { sides .locked .locked with weigh := some w }) (s n) fun t => some t.load.implausible
    (2 * line.car.capacity * line.car.personMass = 40000 ∧ unset.cfg.active = none) ∧
      f 0 40000 = some ⟨0, 7⟩ ∧ f 0 40001 = some ⟨1, 7⟩ ∧ f 255 40001 = some ⟨255, 7⟩ ∧
      after none (.carStatus .a { sides .locked .locked with weigh := some 65535 }) unset (fun t => some t.load.implausible) =
        some unset.load.implausible := by
  decide +kernel

/-- A trip with SB LIFTED and DE ON, with a count of permission drops; the violation of car A's unlocked doors is held already. -/
def dropping (st : TripState) (n : Nat) : State := { onTrip st with
  brake := { hauling.brake with drops := n }
  door := { parked.door with a := { parked.door.a with memUnlocked := true } } }

/-- The drop count after a command, where SB is APPLIED and DE OFF. -/
def dropsAfter (c : Instr) (s : State) : Option Nat :=
  after none c s fun t => if t.brake.de = false ∧ t.brake.sb.command = .applied then some t.brake.drops else none

/-- R93: a permission drop by a side not LOCKED and by a lost link, at the full count, and with the outputs safe already. -/
theorem test_meets_a_permission_drop :
    (let s := dropping .running 0;
      s.permission = true ∧ s.notices = [] ∧ s.trip.state = .running ∧ (s.link.get .a).live = true ∧
        (s.link.get .a).liveness.isSome = true ∧ (s.door.get .a).state = .locked ∧ (s.door.get .a).authority = none ∧
        (sides .closed .locked).left ≠ .locked) ∧
      ([0, 255].map fun n => dropsAfter (.carStatus .a (sides .closed .locked)) (dropping .creeping n)) = [some 1, some 255] ∧
      ([dropping .settling 254, dropping .settling 255, parked].map fun s => dropsAfter (.livenessTimerExpiry .a) s) =
        [some 255, some 255, some 0] ∧
      (let u : State := { dropping .running 3 with link := ⟨CarLink.reset, parked.link.b⟩ };
        u.permission = false ∧ u.brake.de = true ∧ u.permissionTest.brake.drops = 4) := by
  decide +kernel

/-- Car A in a door state with side reports, its window in a state with grants in flight, PARKED or STRANDED. -/
def closingWith (st : DoorState) (auth : Option Side) (w : WindowState) (n : Nat) (trip : TripState) : State :=
  { boarding w 4 (List.replicate n (grantOf .token)) with
    trip := { parked.trip with state := trip }
    port := (porting Assembler.idle [] [] false).port
    door := (atDoor st auth .standingOpen .locked).door }

/-- R125, R126, R137 to R139: DOOR CLOSE of an OPEN, UNSECURED and HELD car with its window SHUT, CLOSING, OPEN with a grant in
flight, and OPEN without one. -/
theorem test_meets_a_door_close_with_each_window :
    (∀ x ∈ [(DoorState.opened, some Side.left), (.unsecured, none), (.held, some .left), (.held, none)],
      ∀ trip ∈ [TripState.parked 0, .stranded], ∀ w ∈ [(WindowState.shut, 0), (.closing, 1), (.opened, 1), (.opened, 0)],
      let s := closingWith x.1 x.2 w.1 w.2 trip;
      (s.TakesRequests ∧ s.cfg.active = some line ∧ s.notices = [] ∧ (s.trip.state.isParked = true ∨ s.trip.state = .stranded) ∧
        (s.door.get .a).state = x.1 ∧ (s.link.get .a).slot = none ∧ s.wrongSideOpen .a = false ∧
        (s.window .a).state = w.1 ∧ (s.window .a).inflight = w.2 ∧ (s.door.get .a).allLocked = false)) ∧
      (∀ st ∈ [DoorState.unsecured, .held],
        ([(WindowState.shut, 0), (.closing, 1), (.opened, 1)].map fun w =>
          after none (.doorClose 7 [0]) (closingWith st none w.1 w.2 .stranded) fun t =>
            some (t.door.a.cycle, t.link.a.slot, (t.window .a).state)) =
          [some (some .close, some .closeDoors, .shut), some (some .window, none, .closing),
            some (some .window, none, .closing)]) ∧
      ((portAfter (.doorClose 7 [0]) (closingWith .held none .opened 1 .stranded)).map fun p => (p.replies, p.reports)) =
        some ([⟨0xA2#8, 7, .done false⟩], [.window (.closing .doorClose 1) .a 0 0 .closing 0]) :=
  ⟨by decide +kernel, by decide +kernel, by decide +kernel⟩

/-- A close cycle of car A with retry count 3 in a phase, with an authority, PARKED or STRANDED. -/
def timedOut (phase : CyclePhase) (auth : Option Side) (trip : TripState) : State := { cycling phase 3 none with
  trip := { parked.trip with state := trip }
  door := { closingDoor.door with a := { (cycling phase 3 none).door.a with authority := auth } } }

/-- R128: T_close runs out in phase CLOSE and in phase REOPEN, with authority and without, PARKED and STRANDED. -/
theorem test_meets_a_T_close_that_runs_out :
    (∀ p ∈ [CyclePhase.close, .reopen], ∀ auth ∈ [some Side.left, none], ∀ trip ∈ [TripState.parked 0, .stranded],
      let s := timedOut p auth trip;
      s.notices = [] ∧ (s.trip.state.isParked = true ∨ s.trip.state = .stranded) ∧ s.wrongSideOpen .a = false ∧
        (s.door.get .a).state = .closing ∧ (s.door.get .a).tClose.isSome = true ∧ (s.door.get .a).cycle = some p) ∧
      (∀ auth ∈ [some Side.left, none], ∀ trip ∈ [TripState.parked 0, .stranded],
        ([CyclePhase.close, .reopen].map fun p => after none (.tCloseExpiry .a) (timedOut p auth trip) fun t =>
          some (t.door.a.state, t.door.a.cycle, t.door.a.retry, t.link.a.slot)) =
          [some (.held, none, 3, some .reopen), some (.held, none, 3, none)]) ∧
      (parked.door.get .a).tClose = none :=
  ⟨by decide +kernel, by decide +kernel, by decide⟩

/-- R147: a grant's timer expires with no poll outstanding, and while the part is UNCONFIGURED. -/
theorem test_meets_a_passage_timeout_in_every_bus_state :
    ∀ s ∈ [{ boarding .opened 1 [grantOf .token] with bus := parked.bus },
        { boarding .opened 1 [grantOf .token] with bus := parked.bus, cfg := unset.cfg }],
      (s.notices = [] ∧ s.grantAt 2 = some (grantOf .token) ∧ s.ShutsAlone .a ∧ s.bus.outstanding = none) ∧
        after none (.passageTimeout 2) s (fun t => some (t.board.grants.length, (t.window .a).released)) = some (0, 1) := by
  decide +kernel

/-- The poll position after a command, whether a poll is outstanding, and the records that the gate bus sends. -/
def busAfter (c : Instr) (s : State) : Option (Nat × Bool × List LinkRecord) :=
  after none c s fun t => some (t.bus.position, t.bus.outstanding.isSome, t.wires.gateBus.sending.toList ++ t.wires.gateBus.waiting)

/-- The gate 5 with lock pending and a decision open or none, after a poll of gate 2. -/
def besideGate5 (open_ : Bool) (outstanding : Option (Nat × Bool)) (s : State) : State := { s with
  bus := { s.bus with
    position := 2, outstanding := outstanding
    gates := s.bus.gates.modify 4 fun g => { g with
      lock := true, decision := if open_ then some ⟨⟨.token, 78, 2, 9⟩, some 0, .standard, none, 0⟩ else none } } }

/-- R153: after each end of the poll of gate 2 the gate 5 is polled; no gate is while a decision is open. -/
theorem test_meets_the_next_poll_after_each_answer :
    ((parked.gate 3).state = .disabled ∧ (parked.gate 4).state = .disabled ∧ (parked.gate 5).state = .offline) ∧
      ∀ c ∈ [Instr.nothing 2, .passed 2, .abandoned 2, .gateFault 2 9, .pollTimeout, .invalidLinkRecord .gateBus],
        ([false, true].map fun x => busAfter c (besideGate5 x (some (2, true)) (boarding .opened 1 [grantOf .token]))) =
          [some (5, true, [.poll 5 true]), some (2, false, [])] :=
  ⟨by decide +kernel, by decide +kernel⟩

/-- R153, R157, R43: the verdict of a grant and of a refusal, the next poll behind it, and the live figures; none is polled while
a decision is open at another gate. -/
theorem test_meets_the_next_poll_after_a_verdict :
    ([(217, false), (218, false), (218, true)].map fun x =>
      busAfter (.creditRequest 2) (besideGate5 x.2 none (deciding x.1))) =
        [some (5, true, [.verdict 2 none 0, .poll 5 true]), some (5, true, [.verdict 2 (some .full) 0, .poll 5 true]),
          some (2, false, [.verdict 2 (some .full) 0])] ∧
      after none (.creditRequest 2) (deciding 217) (fun t => t.load.live.map fun l => (l.cars.a.inflight, l.cars.a.payloadCount)) =
        some (1, 17440) :=
  ⟨by decide +kernel, by decide +kernel⟩

/-- R153, R181, R17: a failed gate record without an outstanding poll, as the fifth miss with a grant in flight and without, and
while UNCONFIGURED. -/
theorem test_meets_a_failed_gate_record :
    (parked.bus.outstanding = none ∧
      exec (.invalidLinkRecord .gateBus) parked = .next (parked.recordTaken .gateBus)) ∧
      ([[grantOf .token], []].map fun l => after none (.invalidLinkRecord .gateBus) (missing (boarding .opened 1 l)) fun t =>
        some ((t.gate 2).state, [(t.gate 2).misses, (t.gate 2).missCount, (t.gate 2).protocolErrors, (t.window .a).unverified])) =
        [some (.offline, [5, 1, 1, 1]), some (.offline, [5, 1, 1, 0])] ∧
      (let s : State := { unset with bus := { unset.bus with position := 12, outstanding := some (12, false) } };
        s.cfg.active = none ∧ s.notices = [] ∧ (∀ e ∈ s.bus.gates, e.decision = none) ∧ s.cfg.commit ≠ .loading ∧
          busAfter (.invalidLinkRecord .gateBus) s = some (1, true, [.poll 1 false])) :=
  ⟨⟨by decide, rfl⟩, by decide +kernel, by decide +kernel⟩

end Sys2Proof.Tests
end

section
/-! PROOFS. The draft and its validation: what a removal and a write leave in the draft (R2 to R4), the values that a commit
takes for an absent record (R2), and the place of the first failing check (R7 to R10). -/

namespace Sys2Proof.Laws

open Sys2Proof Sys2Proof.Machine

/-! ### Reading a record of a draft -/

theorem Draft.fields?_nil (k : Kind) (i : Nat) : Draft.fields? [] k i = none := rfl

theorem Draft.fields?_cons_self (k : Kind) (i : Nat) (fs : List (Nat × Nat)) (d : Draft) :
    Draft.fields? (⟨k, i, fs⟩ :: d) k i = some fs := by
  simp [Draft.fields?]

theorem Draft.fields?_cons_ne {r : DraftRecord} {k : Kind} {i : Nat} (h : ¬(r.kind = k ∧ r.index = i)) (d : Draft) :
    Draft.fields? (r :: d) k i = d.fields? k i := by
  simp [Draft.fields?, h]

theorem Draft.fields?_append (d e : Draft) (k : Kind) (i : Nat) :
    Draft.fields? (d ++ e) k i = (d.fields? k i).or (e.fields? k i) := by
  simp [Draft.fields?, List.find?_append, Option.map_or]

theorem Draft.has_eq_false_iff (d : Draft) (k : Kind) (i : Nat) : d.has k i = false ↔ d.fields? k i = none := by
  simp [Draft.has]

/-! ### Removing and writing a record (R3, R4) -/

theorem Draft.remove_fields?_self (d : Draft) (k : Kind) (i : Nat) : (d.remove k i).fields? k i = none := by
  have gone : (d.remove k i).find? (fun r => r.kind == k && r.index == i) = none :=
    List.find?_eq_none.2 fun r hr => by simpa [-not_and, not_and_or] using (List.mem_filter.1 hr).2
  rw [Draft.fields?, gone, Option.map_none]

theorem Draft.remove_has_self (d : Draft) (k : Kind) (i : Nat) : (d.remove k i).has k i = false :=
  (Draft.has_eq_false_iff _ k i).2 (Draft.remove_fields?_self d k i)

/-- A record that is not removed keeps its fields: what the removal filters out is not of its kind and index. -/
theorem Draft.remove_fields?_other (d : Draft) {k l : Kind} {i j : Nat} (h : (l, j) ≠ (k, i)) :
    (d.remove k i).fields? l j = d.fields? l j := by
  have kept : ∀ r : DraftRecord, (r.kind == l && r.index == j) = true → (!(r.kind == k && r.index == i)) = true := by
    intro r hr
    obtain ⟨rfl, rfl⟩ : r.kind = l ∧ r.index = j := by simpa using hr
    simpa [-not_and, not_and_or] using h
  have same : (fun r : DraftRecord =>
      decide ((!(r.kind == k && r.index == i)) = true ∧ (r.kind == l && r.index == j) = true)) =
        fun r => r.kind == l && r.index == j :=
    funext fun r => Bool.eq_iff_iff.2 (decide_eq_true_iff.trans (and_iff_right_of_imp (kept r)))
  rw [Draft.fields?, Draft.remove, List.find?_filter, same, Draft.fields?]

/-- A record put where no record of its kind and index stands is the one that is read there. -/
theorem Draft.put_fields?_of_absent (k : Kind) (i : Nat) (fs : List (Nat × Nat)) (d : Draft) (h : d.fields? k i = none) :
    (Draft.put ⟨k, i, fs⟩ d).fields? k i = some fs := by
  induction d with
  | nil => exact Draft.fields?_cons_self k i fs []
  | cons x rest ih =>
    have hx : ¬(x.kind = k ∧ x.index = i) := by
      rintro ⟨rfl, rfl⟩
      simp [Draft.fields?] at h
    rw [Draft.fields?_cons_ne hx] at h
    simp only [Draft.put, if_neg hx]
    split
    · exact Draft.fields?_cons_self k i fs _
    · rw [Draft.fields?_cons_ne hx, ih h]

/-- R4: a record written where it was absent has the written field alone. -/
theorem Draft.write_fields?_of_absent {d : Draft} {k : Kind} {i : Nat} (h : d.fields? k i = none) (n v : Nat) :
    (d.write k i [(n, v)]).fields? k i = some [(n, v)] := by
  simp [Draft.write, h, setField, Draft.put_fields?_of_absent]

/-! ### What a commit takes for an absent record (R2) -/

/-- R2: a field of an absent record has its default. -/
theorem Draft.value_of_absent {d : Draft} {k : Kind} {i : Nat} (h : d.fields? k i = none) (n : Nat) :
    d.value k i n = (((k.spec? n).bind (·.default)).getD 0) := by
  simp [Draft.value, Draft.value?, h]

theorem Kind.hasIndex_iff (k : Kind) (i : Nat) : k.hasIndex i = true ↔ k.lowIndex ≤ i ∧ i ≤ k.highIndex := by
  simp [Kind.hasIndex]

@[simp] theorem fullRecord_kind (k : Kind) (i : Nat) (vs : List Nat) : (fullRecord k i vs).kind = k := rfl

theorem fields?_fullRecord_cons (k : Kind) (i : Nat) (vs : List Nat) (d : Draft) :
    Draft.fields? (fullRecord k i vs :: d) k i = some (fullRecord k i vs).fields :=
  Draft.fields?_cons_self k i _ d

theorem fields?_fullRecords_of_ne {α : Type} {k l : Kind} (h : l ≠ k) (xs : List α) (g : α → Nat) (f : α → List Nat)
    (i : Nat) : Draft.fields? (xs.map fun a => fullRecord l (g a) (f a)) k i = none := by
  simp [Draft.fields?, fullRecord, h]

/-- Records numbered in order: the record at an index has the fields of the entry at that place. -/
theorem fields?_numbered {α : Type} (k : Kind) (f : α → List Nat) (xs : List α) (n i : Nat) :
    Draft.fields? ((xs.zipIdx n).map fun p => fullRecord k p.2 (f p.1)) k (n + i) =
      xs[i]?.map fun x => (fullRecord k i (f x)).fields := by
  induction xs generalizing n i with
  | nil => rfl
  | cons x xs ih =>
    rw [List.zipIdx_cons, List.map_cons]
    cases i with
    | zero => exact Draft.fields?_cons_self k n _ _
    | succ i =>
      have hn : ¬(k = k ∧ n = n + (i + 1)) := fun h => absurd h.2 (by omega)
      rw [Draft.fields?_cons_ne hn, show n + (i + 1) = n + 1 + i by omega, ih]
      rfl

/-- R2: the CLASS record of an index in an active configuration. -/
theorem toDraft_fields?_fareClass (c : LineDesc) (i : Nat) :
    c.toDraft.fields? .fareClass i =
      c.classes[i]?.map fun x => (fullRecord .fareClass i [x.category.code, flagCode x.enabled]).fields := by
  have numbered := fields?_numbered .fareClass (fun x : ClassRec => [x.category.code, flagCode x.enabled]) c.classes 0 i
  rw [Nat.zero_add] at numbered
  simp [LineDesc.toDraft, Draft.fields?_append, numbered, fields?_fullRecords_of_ne, Draft.fields?_cons_ne, Draft.fields?_nil]

/-- The values of the only record of a kind in an active configuration, field by field. -/
def soleValues (c : LineDesc) : Kind → List Nat
  | .margin => [c.margin.serviceAbs, c.margin.servicePct, c.margin.emergencyAbs, c.margin.emergencyPct, c.margin.profileMargin]
  | .profile => [c.profile.accel, c.profile.creepSpeed, c.profile.creepDistance, c.profile.inspectionSpeed]
  | .threshold => [c.threshold.priority, c.threshold.staff, c.threshold.standard, c.threshold.group]
  | .timing => [c.timing.passage, c.timing.antiPassback, c.timing.doorClose, c.timing.brakeLift, c.timing.preparing]
  | .door => [flagCode c.door.autoRelease, c.door.obstructionRetries, flagCode c.door.attended]
  | .store => [c.plan]
  | _ => []

/-- The kinds with one record, that a commit takes with its defaults where it is absent (R2, R5). -/
def SoleDefaulted (k : Kind) : Prop := k = .margin ∨ k = .profile ∨ k = .threshold ∨ k = .timing ∨ k = .door ∨ k = .store

theorem toDraft_fields?_sole (c : LineDesc) {k : Kind} (hk : SoleDefaulted k) :
    c.toDraft.fields? k 0 = some (fullRecord k 0 (soleValues c k)).fields := by
  rcases hk with rfl | rfl | rfl | rfl | rfl | rfl <;>
    simp [LineDesc.toDraft, Draft.fields?_append, fields?_fullRecords_of_ne, Draft.fields?_cons_ne, fields?_fullRecord_cons,
      soleValues]

/-- Every field of a kind with its default. -/
def defaultFields (k : Kind) : List (Nat × Nat) := k.specs.map fun x => (x.number, x.default.getD 0)

theorem defaultFields_lookup {k : Kind} (hk : SoleDefaulted k ∨ k = .fareClass) :
    ∀ x ∈ k.specs, x.default.isSome = true ∧ (defaultFields k).lookup x.number = x.default := by
  rcases hk with (rfl | rfl | rfl | rfl | rfl | rfl) | rfl <;> decide

/-- R2, R4: an absent MARGIN, PROFILE, THRESHOLD, TIMING, DOOR or STORE record is taken with its defaults. -/
theorem complete_fields?_of_absent_sole {d : Draft} {k : Kind} (hk : SoleDefaulted k) (h : d.fields? k 0 = none) :
    d.complete.toDraft.fields? k 0 = some (defaultFields k) := by
  rw [toDraft_fields?_sole _ hk]
  rcases hk with rfl | rfl | rfl | rfl | rfl | rfl <;>
    simp only [soleValues, Draft.complete, Draft.value_of_absent h] <;> rfl

/-- R2, R4: an absent CLASS record is taken with its defaults, STANDARD and enabled. -/
theorem complete_fields?_of_absent_fareClass {d : Draft} {i : Nat} (hi : i ≤ 15) (h : d.fields? .fareClass i = none) :
    d.complete.toDraft.fields? .fareClass i = some (defaultFields .fareClass) := by
  have entry : Kind.fareClass.indexes[i]? = some i := by
    have counted : Kind.fareClass.indexes = (List.range 16).map (· + 0) := rfl
    simp [counted, List.getElem?_range (Nat.lt_succ_of_le hi)]
  simp only [toDraft_fields?_fareClass, Draft.complete, List.getElem?_map, entry, Option.map_some, Draft.value_of_absent h]
  rfl

/-- R2, R4: an absent record of a kind that may be absent is taken with its defaults. -/
theorem complete_fields?_of_absent {d : Draft} {k : Kind} {i : Nat} (hk : SoleDefaulted k ∨ k = .fareClass)
    (hi : k.hasIndex i = true) (h : d.fields? k i = none) :
    d.complete.toDraft.fields? k i = some (defaultFields k) := by
  have top : i ≤ k.highIndex := ((Kind.hasIndex_iff k i).1 hi).2
  rcases hk with hk | rfl
  · have zero : k.highIndex = 0 := by rcases hk with rfl | rfl | rfl | rfl | rfl | rfl <;> rfl
    obtain rfl : i = 0 := by omega
    exact complete_fields?_of_absent_sole hk h
  · exact complete_fields?_of_absent_fareClass top h

/-! ### The checks of a record (R7 to R10) -/

/-- A field number stands in one row of the table of its kind. -/
theorem Kind.spec?_of_mem {k : Kind} {f : FieldSpec} (hf : f ∈ k.specs) : k.spec? f.number = some f := by
  revert f
  cases k <;> decide

theorem Draft.previous?_succ (d : Draft) (k : Kind) (i : Nat) :
    d.previous? k (i + 1) = if d.has k i then some i else d.previous? k i := by
  simp only [Draft.previous?, List.range_succ, List.filter_append, List.filter_cons, List.filter_nil]
  split <;> simp

/-- R9: without a previous record every lower index is absent. -/
theorem Draft.has_of_previous?_none {d : Draft} {k : Kind} {i : Nat} (h : d.previous? k i = none) {j : Nat} (hj : j < i) :
    d.has k j = false := by
  have absent : j ∉ (List.range i).filter fun l => d.has k l := by
    rw [List.getLast?_eq_none_iff.1 h]
    exact List.not_mem_nil
  simpa [hj] using absent

/-- R9: the record that is found as the previous one. -/
theorem Draft.previous_of_previous? {d : Draft} {k : Kind} {i j : Nat} (h : d.previous? k i = some j) : d.Previous k i j := by
  induction i with
  | zero => cases h
  | succ i ih =>
    rw [Draft.previous?_succ] at h
    split at h
    · next here =>
      cases h
      exact ⟨Nat.lt_succ_self _, here, fun l h1 h2 => absurd h1 (by omega)⟩
    · next gone =>
      obtain ⟨below, present, between⟩ := ih h
      refine ⟨by omega, present, fun l h1 h2 => ?_⟩
      obtain rfl | lower : l = i ∨ l < i := by omega
      · simpa using gone
      · exact between l h1 lower

/-- R7: a required record is one of those that FailsCheck names. -/
theorem recordRequired_iff (k : Kind) (i : Nat) : recordRequired k i = true ↔
    (i = 0 ∧ (k = .line ∨ k = .car ∨ k = .zone ∨ k = .stop)) ∨ (i = 1 ∧ k = .stop) := by
  cases k <;> simp [recordRequired]

theorem hasIndex_of_recordRequired {k : Kind} {i : Nat} (h : recordRequired k i = true) : k.hasIndex i = true := by
  obtain ⟨rfl, rfl | rfl | rfl | rfl⟩ | ⟨rfl, rfl⟩ := (recordRequired_iff k i).1 h <;> rfl

theorem failsCheck_of_lacksField {d : Draft} {k : Kind} {i : Nat} (here : d.has k i = true) (h : lacksField d k i = true) :
    d.FailsCheck k i 2 := by
  obtain ⟨f, hf, lacking⟩ := List.any_eq_true.1 h
  simp only [Draft.value?, Kind.spec?_of_mem hf, Option.isNone_iff_eq_none, Option.or_eq_none_iff] at lacking
  exact ⟨here, f, hf, lacking.2, lacking.1⟩

theorem failsCheck_of_fieldOrderFails {d : Draft} {k : Kind} {i : Nat} (h : fieldOrderFails d k i = true) :
    d.FailsCheck k i 4 := by
  cases k
  case line | margin | profile | zone | platform => simpa [fieldOrderFails, Draft.FailsCheck, or_assoc] using h
  all_goals exact Bool.noConfusion h

/-- R9: a record of a gapless kind without a previous record has index 0, or fails the check for a gap. -/
theorem zero_or_gap_of_previous?_none {d : Draft} {k : Kind} {i : Nat} (hk : k = .zone ∨ k = .stop) (here : d.has k i = true)
    (h : d.previous? k i = none) : i = 0 ∨ d.FailsCheck k i 3 := by
  cases i with
  | zero => exact .inl rfl
  | succ i => exact .inr ⟨here, hk, Nat.succ_pos i, Draft.has_of_previous?_none h (Nat.lt_succ_self i)⟩

theorem failsCheck_of_zoneStartFails {d : Draft} {i : Nat} (here : d.has .zone i = true) (h : zoneStartFails d i = true) :
    d.FailsCheck .zone i 5 ∨ d.FailsCheck .zone i 3 := by
  simp only [zoneStartFails, Bool.or_eq_true, decide_eq_true_eq] at h
  rcases h with h | late
  · split at h
    · next first =>
      rcases zero_or_gap_of_previous?_none (.inl rfl) here first with zero | gap
      · exact .inl ⟨rfl, here, .inl ⟨zero, of_decide_eq_true h⟩⟩
      · exact .inr gap
    · next j previous =>
      exact .inl ⟨rfl, here, .inr (.inl ⟨j, Draft.previous_of_previous? previous, of_decide_eq_true h⟩)⟩
  · exact .inl ⟨rfl, here, .inr (.inr late)⟩

theorem failsCheck_of_stopPositionFails {d : Draft} {i : Nat} (here : d.has .stop i = true)
    (h : stopPositionFails d i = true) : d.FailsCheck .stop i 6 ∨ d.FailsCheck .stop i 3 := by
  simp only [stopPositionFails, Bool.or_eq_true] at h
  rcases h with h | last
  · split at h
    · next first =>
      rcases zero_or_gap_of_previous?_none (.inr rfl) here first with zero | gap
      · exact .inl ⟨rfl, here, .inl ⟨zero, of_decide_eq_true h⟩⟩
      · exact .inr gap
    · next j previous =>
      exact .inl ⟨rfl, here, .inr (.inl ⟨j, Draft.previous_of_previous? previous, of_decide_eq_true h⟩)⟩
  · obtain ⟨noneAbove, wrong⟩ : (∀ j, j < 4 → i < j → d.has .stop j = false) ∧ d.value .stop i 1 ≠ d.value .line 0 1 := by
      simpa using last
    exact .inl ⟨rfl, here, .inr (.inr ⟨fun j h1 h2 => noneAbove j h2 h1, wrong⟩)⟩

theorem failsCheck_of_stopPlatformFieldFails {d : Draft} {i f : Nat} (hf : f = 2 ∨ f = 3) (here : d.has .stop i = true)
    (h : stopPlatformFieldFails d i f = true) : d.FailsCheck .stop i 7 := by
  unfold stopPlatformFieldFails at h
  dsimp only at h
  split at h
  · cases h
  · next named =>
    refine ⟨rfl, here, f, d.value .stop i f, hf, rfl, named, ?_⟩
    simpa [stopNames, or_assoc] using h

theorem failsCheck_of_markPositionFails {d : Draft} {i : Nat} (here : d.has .mark i = true)
    (h : markPositionFails d i = true) : d.FailsCheck .mark i 9 := by
  simp only [markPositionFails, Bool.or_eq_true, decide_eq_true_eq] at h
  rcases h with beyond | h
  · exact ⟨rfl, here, .inl beyond⟩
  · split at h
    · cases h
    · next j previous =>
      exact ⟨rfl, here, .inr ⟨j, Draft.previous_of_previous? previous, of_decide_eq_true h⟩⟩

/-- R7 to R10: what the visit finds failing is a failing check of the record, or the gap below it. -/
theorem failsCheck_of_mem_recordChecks {d : Draft} {k : Kind} {i x : Nat} (h : (x, true) ∈ recordChecks d k i) :
    d.FailsCheck k i x ∨ d.FailsCheck k i 3 := by
  simp only [recordChecks, List.mem_cons, Prod.mk.injEq, List.not_mem_nil, or_false, eq_comm (a := true), Bool.and_eq_true,
    Bool.or_eq_true, Bool.not_eq_true', beq_iff_eq, decide_eq_true_eq] at h
  rcases h with ⟨rfl, required, gone⟩ | ⟨rfl, here, lacking⟩ | ⟨rfl, ⟨⟨here, hk⟩, pos⟩, gap⟩ | ⟨rfl, order⟩ |
    ⟨rfl, ⟨rfl, here⟩, start⟩ | ⟨rfl, ⟨rfl, here⟩, position⟩ | ⟨rfl, ⟨rfl, here⟩, platform⟩ | ⟨rfl, ⟨rfl, here⟩, unnamed⟩ |
    ⟨rfl, ⟨rfl, here⟩, position⟩ | ⟨rfl, ⟨rfl, here⟩, gone⟩
  · exact .inl ⟨gone, (recordRequired_iff k i).1 required⟩
  · exact .inl (failsCheck_of_lacksField here lacking)
  · exact .inl ⟨here, hk, pos, gap⟩
  · exact .inl (failsCheck_of_fieldOrderFails order)
  · exact failsCheck_of_zoneStartFails here start
  · exact failsCheck_of_stopPositionFails here position
  · rcases platform with a | b
    · exact .inl (failsCheck_of_stopPlatformFieldFails (.inl rfl) here a)
    · exact .inl (failsCheck_of_stopPlatformFieldFails (.inr rfl) here b)
  · refine .inl ⟨rfl, here, ?_⟩
    simpa [stopNames] using unnamed
  · exact .inl (failsCheck_of_markPositionFails here position)
  · exact .inl ⟨rfl, here, gone⟩

theorem firstFailure_of_failsNone {d : Draft} {k : Kind} {i : Nat} (h : ∀ x, ¬d.FailsCheck k i x) :
    firstFailure d k i = none := by
  have passes : (recordChecks d k i).find? (fun c => c.2) = none :=
    List.find?_eq_none.2 <| by
      rintro ⟨x, fails⟩ hx (rfl : fails = true)
      rcases failsCheck_of_mem_recordChecks hx with f | f
      · exact h x f
      · exact h 3 f
  simp [firstFailure, passes]

theorem firstFailure_of_required_absent {d : Draft} {k : Kind} {i : Nat} (hr : recordRequired k i = true)
    (h : d.has k i = false) : firstFailure d k i = some 1 := by
  simp [firstFailure, visited, recordChecks, hr, h]

/-! ### The order of the visit (R7) -/

theorem mem_allRecords_iff (k : Kind) (i : Nat) : (k, i) ∈ allRecords ↔ k.hasIndex i = true := by
  have known : k ∈ Kind.all := by cases k <;> decide
  have index : i ∈ k.indexes ↔ k.lowIndex ≤ i ∧ i ≤ k.highIndex := by
    simp only [Kind.indexes, List.mem_map, List.mem_range]
    constructor
    · rintro ⟨j, hj, rfl⟩
      omega
    · exact fun h => ⟨i - k.lowIndex, by omega, by omega⟩
  rw [Kind.hasIndex_iff, ← index]
  simp [allRecords, known]

theorem indexes_ordered (k : Kind) : k.indexes.Pairwise (· < ·) :=
  List.pairwise_map.2 (List.pairwise_lt_range.imp fun h => Nat.add_lt_add_right h _)

/-- R7: kind code first, then index. -/
theorem allRecords_ordered :
    allRecords.Pairwise fun a b => a.1.code < b.1.code ∨ (a.1 = b.1 ∧ a.2 < b.2) := by
  have kinds : Kind.all.Pairwise fun k l => k.code < l.code := by decide
  refine List.pairwise_flatMap.2 ⟨fun k _ => ?_, kinds.imp fun h => ?_⟩
  · exact List.pairwise_map.2 ((indexes_ordered k).imp fun h => .inr ⟨rfl, h⟩)
  · simp only [List.mem_map]
    rintro _ ⟨i, -, rfl⟩ _ ⟨j, -, rfl⟩
    exact .inl h

/-- R7: where no record before it fails a check, a record that fails one gives the result of the validation. -/
theorem validate_of_first {d : Draft} {k : Kind} {i c : Nat} (hi : k.hasIndex i = true)
    (before : ∀ l j x, l.hasIndex j = true → (l.code < k.code ∨ (l = k ∧ j < i)) → ¬d.FailsCheck l j x)
    (fails : firstFailure d k i = some c) : validate d = some (k.code, i, c) := by
  obtain ⟨pre, post, parts⟩ := List.append_of_mem ((mem_allRecords_iff k i).2 hi)
  have ordered := allRecords_ordered
  rw [parts] at ordered
  have earlier : ∀ r ∈ pre, firstFailure d r.1 r.2 = none := fun ⟨l, j⟩ hr =>
    firstFailure_of_failsNone fun x =>
      before l j x ((mem_allRecords_iff l j).1 (parts ▸ List.mem_append_left _ hr))
        ((List.pairwise_append.1 ordered).2.2 (l, j) hr (k, i) List.mem_cons_self)
  refine List.findSome?_eq_some_iff.2 ⟨pre, (k, i), post, parts, by simp [fails], fun r hr => ?_⟩
  simp [earlier r hr]

/-- R7: where no record before it fails a check, an absent required record gives REQUIRED_RECORD. -/
theorem validate_of_required_absent {d : Draft} {k : Kind} {i : Nat} (required : recordRequired k i = true)
    (before : ∀ l j x, l.hasIndex j = true → (l.code < k.code ∨ (l = k ∧ j < i)) → ¬d.FailsCheck l j x)
    (absent : d.has k i = false) : validate d = some (k.code, i, 1) :=
  validate_of_first (hasIndex_of_recordRequired required) before (firstFailure_of_required_absent required absent)

/-! ### CONFIG WRITE with the remove flag set (R4) -/

section

variable {s : State} {seq : Byte} {p : List Byte} {a : ConfigWriteArgs} {k : Kind}

theorem exec_configRemove : exec (.configRemove seq p) s = .next (request seq 0x01#8 (writePayload p) configWriteOwner s) :=
  rfl

/-- The owner of CONFIG WRITE reads nothing of the port. -/
theorem configWriteOwner_hunting : configWriteOwner a s.hunting = configWriteOwner a s := rfl

/-- R4, R16: outside IDLE the request is answered BUSY, also while LOADING. -/
theorem configRemove_busy (run : s.port.restarting = false) (room : s.port.replies.length < Config.replyQueueSize)
    (args : writePayload p = some a) (h : s.cfg.commit ≠ .idle) :
    exec (.configRemove seq p) s = .next (s.replied 0x01#8 seq (.plain .busy)) := by
  rw [exec_configRemove, args]
  by_cases loading : s.cfg.commit = .loading
  · rw [request_loading run room loading]
  · have owner : configWriteOwner a s = .refuse .busy := if_pos h
    rw [request_taken ⟨run, room, loading⟩, configWriteOwner_hunting, owner]
    rfl

/-- In IDLE the request is decided by its owner. -/
theorem configRemove_decided (run : s.port.restarting = false) (room : s.port.replies.length < Config.replyQueueSize)
    (args : writePayload p = some a) (h : s.cfg.commit = .idle) :
    exec (.configRemove seq p) s = .next (s.hunting.rule seq 0x01#8 (configWriteOwner a s)) := by
  rw [exec_configRemove, args, request_taken ⟨run, room, by simp [h]⟩, configWriteOwner_hunting]

/-- R4: an unknown kind. -/
theorem configWriteOwner_unknown (h : s.cfg.commit = .idle) (hk : Kind.ofCode a.kind = none) :
    configWriteOwner a s = .refuse .range := by
  simp [configWriteOwner, h, hk]

/-- R4: an index out of the range of the kind. -/
theorem configWriteOwner_index (h : s.cfg.commit = .idle) (hk : Kind.ofCode a.kind = some k)
    (hi : k.hasIndex a.index = false) : configWriteOwner a s = .refuse .range := by
  simp [configWriteOwner, h, hk, hi]

/-- R4: the rows of a removal whose record can be named. -/
theorem configWriteOwner_remove (h : s.cfg.commit = .idle) (hk : Kind.ofCode a.kind = some k)
    (hi : k.hasIndex a.index = true) (hr : a.remove = 1) :
    configWriteOwner a s = firstRow [(!a.fields.isEmpty, .refuse .range), (!s.cfg.draft.has k a.index, .refuse .absent)]
      (.accept fun t => t.modCfg fun c => { c with draft := c.draft.remove k a.index }) := by
  simp [configWriteOwner, h, hk, hi, hr]

end

/-- Settles O21: the rows of the request by configWriteOwner, the draft by the rules of removing and writing, the commit by
the values of an absent record and the first failure of the visit. -/
theorem configRemoveRemovesTheRecord : Obligations.ConfigRemoveRemovesTheRecord := by
  unfold Obligations.ConfigRemoveRemovesTheRecord
  intro s seq p a run room args flag
  refine ⟨fun busy => ⟨none, configRemove_busy run room args busy⟩, fun idle unknown => ⟨none, ?_⟩, fun k hk idle => ?_⟩
  · rw [configRemove_decided run room args idle, configWriteOwner_unknown idle unknown]
    rfl
  have absent := Draft.remove_fields?_self s.cfg.draft k a.index
  refine ⟨fun hi => ⟨none, ?_⟩, fun hi fields => ⟨none, ?_⟩, fun hi fields gone => ⟨none, ?_⟩, fun hi fields here => ⟨none, ?_⟩,
    Draft.remove_has_self _ k _, fun l j other => Draft.remove_fields?_other _ other,
    fun n v => Draft.write_fields?_of_absent absent n v, fun hi kinds => ?_, fun required before => ?_⟩
  case refine_1 =>
    rw [configRemove_decided run room args idle, configWriteOwner_index idle hk hi]
    rfl
  case refine_2 =>
    have listed : (!a.fields.isEmpty) = true := by simpa using fields
    rw [configRemove_decided run room args idle, configWriteOwner_remove idle hk hi flag, listed]
    rfl
  case refine_3 =>
    rw [configRemove_decided run room args idle, configWriteOwner_remove idle hk hi flag, fields, gone]
    rfl
  case refine_4 =>
    rw [configRemove_decided run room args idle, configWriteOwner_remove idle hk hi flag, fields, here]
    rfl
  case refine_5 =>
    have sole : SoleDefaulted k ∨ k = .fareClass := by
      unfold SoleDefaulted
      tauto
    exact ⟨_, complete_fields?_of_absent sole hi absent, defaultFields_lookup sole⟩
  case refine_6 =>
    exact validate_of_required_absent ((recordRequired_iff k a.index).2 required) before (Draft.remove_has_self _ k _)

end Sys2Proof.Laws
end

section
/-! PROOFS. The live figures of a direction: the runaway imbalance and its within-limit flag (R41). -/

namespace Sys2Proof.Laws

open Sys2Proof Sys2Proof.Machine

/-! ### The runaway imbalance (R41) -/

/-- R41: the formula of the rule over the integers; the truncated difference of the model is its max with 0. -/
theorem imbalance_cast (downhill uphill : Nat) :
    (imbalance downhill uphill : Int) = min 30000 (max 0 ((downhill : Int) - uphill)) := by
  unfold imbalance
  omega

theorem imbalance_eq_zero_iff (downhill uphill : Nat) : imbalance downhill uphill = 0 ↔ downhill ≤ uphill := by
  unfold imbalance
  omega

theorem imbalance_pos_iff (downhill uphill : Nat) : 0 < imbalance downhill uphill ↔ uphill < downhill := by
  rw [Nat.pos_iff_ne_zero, ne_eq, imbalance_eq_zero_iff, Nat.not_le]

/-- R41: of two opposite directions at most one has an imbalance above 0. -/
theorem imbalance_not_both_pos (a b : Nat) : ¬(0 < imbalance b a ∧ 0 < imbalance a b) := by
  rintro ⟨up, down⟩
  exact Nat.lt_asymm ((imbalance_pos_iff b a).1 up) ((imbalance_pos_iff a b).1 down)

theorem imbalance_self (a : Nat) : imbalance a a = 0 := (imbalance_eq_zero_iff a a).2 le_rfl

/-! ### The figures of a direction -/

@[simp] theorem dirLoad_u (d : LineDesc) (downhill uphill : Nat) : (dirLoad d downhill uphill).u = imbalance downhill uphill :=
  rfl

/-- R41: the within-limit flag of a direction compares its own imbalance with U_max. -/
theorem dirLoad_within_iff (d : LineDesc) (downhill uphill : Nat) :
    (dirLoad d downhill uphill).within = true ↔ (dirLoad d downhill uphill).u ≤ d.car.imbalanceLimit :=
  decide_eq_true_iff

/-- R41: for UP the downhill car is B. -/
theorem liveFigures_up (d : LineDesc) (links : Pair CarLink) (windows : Pair Window) :
    (liveFigures d links windows).up =
      dirLoad d (liveFigures d links windows).cars.b.payload (liveFigures d links windows).cars.a.payload := rfl

/-- R41: for DOWN the downhill car is A. -/
theorem liveFigures_down (d : LineDesc) (links : Pair CarLink) (windows : Pair Window) :
    (liveFigures d links windows).down =
      dirLoad d (liveFigures d links windows).cars.a.payload (liveFigures d links windows).cars.b.payload := rfl

/-- Settles O47: the figures of each direction are those of its downhill and uphill car, and the rules of the imbalance give
the rest. -/
theorem imbalanceOfEachDirection : Obligations.ImbalanceOfEachDirection := by
  unfold Obligations.ImbalanceOfEachDirection
  rintro d links windows l a b rfl rfl rfl
  rw [liveFigures_up, liveFigures_down]
  refine ⟨imbalance_cast _ _, imbalance_cast _ _, imbalance_not_both_pos _ _, fun same => ?_,
    dirLoad_within_iff d _ _, dirLoad_within_iff d _ _⟩
  rw [dirLoad_u, dirLoad_u, same]
  exact ⟨imbalance_self _, imbalance_self _⟩

end Sys2Proof.Laws
end

section
/-! PROOFS. The cursor of the pass table: what CURSOR SET sets and refuses, what PASS READ returns and moves, and that the loads
and deletes leave the cursor where it is (R165). -/

namespace Sys2Proof.Laws

open Sys2Proof Sys2Proof.Machine

/-! ### The rows of the credential requests (R160) -/

/-- R160: with the store open, of the shared rows only the range row is left. -/
theorem firstRow_storeRows {s : State} (isOpen : s.StoreOpen) (bad : Bool) (rows : List (Bool × Ruling)) (o : Ruling) :
    firstRow (storeRows s bad ++ rows) o = firstRow ((bad, .refuse .range) :: rows) o := by
  obtain ⟨configured, ready⟩ := isOpen
  have clear : (s.store.state == .clearing) = false := by rw [ready]; rfl
  simp only [storeRows, configured, clear, List.cons_append, List.nil_append, firstRow_false]

theorem dirOfCode_eq_none_iff (b : Byte) : dirOfCode b = none ↔ 1 < b.toNat := by
  unfold dirOfCode
  generalize b.toNat = n
  match n with
  | 0 => simp
  | 1 => simp
  | n + 2 => simp

/-! ### Requests that leave the cursor -/

/-- A ruling whose effect leaves the cursor and its direction as they are. -/
def KeepsCursor (r : Ruling) : Prop :=
  ∀ u : State, (r.effect u).store.cursor = u.store.cursor ∧ (r.effect u).store.cursorDir = u.store.cursorDir

theorem keepsCursor_refuse (r : Result) : KeepsCursor (.refuse r) := fun _ => ⟨rfl, rfl⟩

/-- R164: the effect of a load, whichever reply goes with it. -/
theorem keepsCursor_load (b : ReplyBody) (r : PassRec) : KeepsCursor ⟨some b, changeStore fun c => c.load r⟩ :=
  fun _ => ⟨rfl, rfl⟩

theorem keepsCursor_storeRows (s : State) (bad : Bool) : ∀ r ∈ storeRows s bad, KeepsCursor r.2 := by
  simp [storeRows, -refuse_eq, keepsCursor_refuse]

theorem passLoadOwner_keepsCursor (r : PassRec) (s : State) : KeepsCursor (passLoadOwner r s) := by
  refine firstRow_keep (fun row hrow _ => ?_) fun _ => keepsCursor_load _ r
  rcases List.mem_append.1 hrow with shared | own
  · exact keepsCursor_storeRows _ _ row shared
  · simp only [List.mem_cons, List.not_mem_nil, or_false] at own
    rcases own with rfl | rfl | rfl
    · exact keepsCursor_refuse _
    · exact keepsCursor_load _ r
    · exact keepsCursor_refuse _

theorem passDeleteOwner_keepsCursor (id : Nat) (s : State) : KeepsCursor (passDeleteOwner id s) := by
  refine firstRow_keep (fun row hrow _ => ?_) fun _ _ => ⟨rfl, rfl⟩
  rcases List.mem_append.1 hrow with shared | own
  · exact keepsCursor_storeRows _ _ row shared
  · simp only [List.mem_cons, List.not_mem_nil, or_false] at own
    rcases own with rfl | rfl <;> exact keepsCursor_refuse _

theorem rule_keepsCursor {r : Ruling} (keeps : KeepsCursor r) (seq typ : Byte) (s : State) :
    (s.rule seq typ r).store.cursor = s.store.cursor ∧ (s.rule seq typ r).store.cursorDir = s.store.cursorDir := by
  obtain ⟨body, effect⟩ := r
  cases body <;> exact keeps _

/-- However the port takes a request, the cursor stays where every ruling of its owner leaves it. -/
theorem request_keepsCursor {α : Type} {owner : α → State → Ruling} (keeps : ∀ a t, KeepsCursor (owner a t))
    (seq typ : Byte) (args : Option α) (s : State) :
    (request seq typ args owner s).store.cursor = s.store.cursor ∧
      (request seq typ args owner s).store.cursorDir = s.store.cursorDir := by
  cases restarting : s.port.restarting with
  | true => rw [request_restarting restarting]; exact ⟨rfl, rfl⟩
  | false =>
    rcases Nat.lt_or_ge s.port.replies.length Config.replyQueueSize with room | full
    · cases args with
      | none => rw [request_length restarting room]; exact ⟨rfl, rfl⟩
      | some a =>
        by_cases loading : s.cfg.commit = .loading
        · rw [request_loading restarting room loading]; exact ⟨rfl, rfl⟩
        · rw [request_taken ⟨restarting, room, loading⟩]
          exact rule_keepsCursor (keeps a s.hunting) seq typ s.hunting
    · rw [request_overrun restarting full]; exact ⟨rfl, rfl⟩

/-! ### CURSOR SET -/

/-- R165: with the store open, CURSOR SET is refused for an index above 1024 or a direction without a code only. -/
theorem cursorSetOwner_open {s : State} (isOpen : s.StoreOpen) (n : Nat) (e : Byte) :
    cursorSetOwner (n, e) s = firstRow [(decide (1024 < n) || (dirOfCode e).isNone, .refuse .range)]
      (.accept (changeStore fun c => { c with cursor := n, cursorDir := (dirOfCode e).getD .up })) :=
  firstRow_storeRows isOpen _ [] _

theorem cursorSetOwner_range {s : State} (isOpen : s.StoreOpen) {n : Nat} {e : Byte} (bad : 1024 < n ∨ 1 < e.toNat) :
    cursorSetOwner (n, e) s = .refuse .range := by
  have row : (decide (1024 < n) || (dirOfCode e).isNone) = true := by
    rw [← dirOfCode_eq_none_iff] at bad
    simpa using bad
  rw [cursorSetOwner_open isOpen, row, firstRow_true]

theorem cursorSetOwner_accept {s : State} (isOpen : s.StoreOpen) {n : Nat} (low : n ≤ 1024) {e : Byte} {d : Dir}
    (code : dirOfCode e = some d) :
    cursorSetOwner (n, e) s = .accept (changeStore fun c => { c with cursor := n, cursorDir := d }) := by
  have row : (decide (1024 < n) || (dirOfCode e).isNone) = false := by simp [code, low]
  rw [cursorSetOwner_open isOpen, row, firstRow_false, firstRow_nil, code, Option.getD_some]

/-! ### PASS READ -/

theorem passReadOwner_open {s : State} (isOpen : s.StoreOpen) :
    passReadOwner () s =
      ⟨some (.passes s.store.readPasses.1 s.store.readPasses.2),
        changeStore fun c => { c with cursor := s.store.readPasses.2 }⟩ :=
  firstRow_storeRows isOpen false [] _

/-- R165: UP returns up to eight records from the cursor on, and moves the cursor behind them. -/
theorem readPasses_up {c : CredStore} (up : c.cursorDir = .up) {k : Nat} (place : k = min c.cursor c.passes.length) :
    c.readPasses = ((c.passes.drop k).take 8, k + min 8 (c.passes.length - k)) := by
  subst place
  simp [CredStore.readPasses, up]

/-- R165: the records before a place read backwards, up to `n` of them, are the last ones before it in reverse order. -/
theorem take_reverse_take {α : Type} (l : List α) {k : Nat} (hk : k ≤ l.length) (n : Nat) :
    (l.take k).reverse.take n = ((l.drop (k - min n k)).take (min n k)).reverse := by
  have first : k - n = k - min n k := by omega
  have count : k - (k - min n k) = min n k := by omega
  rw [List.take_reverse, List.length_take_of_le hk, List.drop_take, first, count]

/-- R165: DOWN returns up to eight records before the cursor, the nearest first, and moves the cursor before them. -/
theorem readPasses_down {c : CredStore} (down : c.cursorDir = .down) {k : Nat} (place : k = min c.cursor c.passes.length) :
    c.readPasses = (((c.passes.drop (k - min 8 k)).take (min 8 k)).reverse, k - min 8 k) := by
  have inside : k ≤ c.passes.length := place ▸ Nat.min_le_right _ _
  rw [← take_reverse_take c.passes inside]
  subst place
  simp [CredStore.readPasses, down]

/-! ### The commands -/

section

variable {s : State} {seq : Byte}

/-- The owner of CURSOR SET decides on the state as it stands: it reads nothing of the port. -/
theorem exec_cursorSet_taken (takes : s.TakesRequests) (h l e : Byte) :
    exec (.cursorSet seq [h, l, e]) s = .next (s.hunting.rule seq 0x33#8 (cursorSetOwner (be16 h l, e) s)) := by
  show (.next (request seq 0x33#8 (some (be16 h l, e)) cursorSetOwner s) : Step) = _
  rw [request_taken takes]
  rfl

theorem exec_cursorSet_accept (takes : s.TakesRequests) (isOpen : s.StoreOpen) {h l e : Byte} {d : Dir} (low : be16 h l ≤ 1024)
    (code : dirOfCode e = some d) :
    exec (.cursorSet seq [h, l, e]) s = .next { s.afterReply 0x33#8 seq (.plain .ok) none with
      store := { s.store with cursor := be16 h l, cursorDir := d } } := by
  rw [exec_cursorSet_taken takes, cursorSetOwner_accept isOpen low code]
  rfl

/-- The owner of PASS READ decides on the state as it stands. -/
theorem exec_passRead_taken (takes : s.TakesRequests) :
    exec (.passRead seq []) s = .next (s.hunting.rule seq 0x32#8 (passReadOwner () s)) := by
  show (.next (request seq 0x32#8 (some ()) passReadOwner s) : Step) = _
  rw [request_taken takes]
  rfl

/-- PASS READ of an open store, with the records read and the place after them. -/
theorem exec_passRead (takes : s.TakesRequests) (isOpen : s.StoreOpen) {rs : List PassRec} {n : Nat}
    (read : s.store.readPasses = (rs, n)) :
    exec (.passRead seq []) s =
      .next { s.afterReply 0x32#8 seq (.passes rs n) none with store := { s.store with cursor := n } } := by
  rw [exec_passRead_taken takes, passReadOwner_open isOpen, read]
  rfl

end

/-- Settles O27: loads and deletes by the rulings that keep the cursor, CURSOR SET by its owner's rows, PASS READ by the records
read in each direction. -/
theorem cursorSetAndPassRead : Obligations.CursorSetAndPassRead := by
  unfold Obligations.CursorSetAndPassRead
  refine ⟨fun s t seq p taken => ?_, fun s seq h l e takes isOpen => ⟨fun low => ⟨⟨none, ?_⟩, ⟨none, ?_⟩⟩,
    fun bad => ⟨none, ?_⟩, fun up => ⟨_, _, none, rfl, rfl, ?_⟩, fun down => ⟨_, _, none, rfl, rfl, ?_⟩⟩⟩
  case refine_1 =>
    rcases taken with load | delete
    · cases load
      exact request_keepsCursor passLoadOwner_keepsCursor seq 0x30#8 (passPayload p) s
    · cases delete
      exact request_keepsCursor passDeleteOwner_keepsCursor seq 0x31#8 (longPayload p) s
  case refine_2 => exact exec_cursorSet_accept takes isOpen low rfl
  case refine_3 => exact exec_cursorSet_accept takes isOpen low rfl
  case refine_4 =>
    rw [exec_cursorSet_taken takes, cursorSetOwner_range isOpen bad]
    rfl
  case refine_5 => exact exec_passRead takes isOpen (readPasses_up up rfl)
  case refine_6 => exact exec_passRead takes isOpen (readPasses_down down rfl)

end Sys2Proof.Laws
end
